-- ==== Sys2Proof/Word.lean ====
section
/-! DEFINITION. The word types of the ZP1 block (00_scope.md R12: bytes are 8 bits, every value is unsigned). -/

namespace Sys2Proof

/-- A byte (R12). -/
abbrev Byte := BitVec 8

/-- A 16-bit field: cluster ids, attribute ids, profile ids, checksums (R8, R33, R92). -/
abbrev Half := BitVec 16

/-- A sender or destination identity. The spec calls it opaque (R92) and the block compares it with nothing;
64 bits are the model's choice (DESIGN CHOICE, safe; log entry 5). -/
abbrev Identity := BitVec 64

end Sys2Proof
end

