-- ==== Sys2Proof/Config.lean ====
section
/-! DEFINITION. The parameters of the step relation (10_state.md R40): framer parameters (R7), wire constants (R9),
configuration tables (R10, R33, R37), report addressing (R11), the width table (R103), and the opaque free values.
A configuration is plain data held in one field of the state that no operation writes (log entry 4). -/

namespace Sys2Proof

/-- The key of an attribute: endpoint, cluster, attribute id (10_state.md R33, R199). -/
structure Key where
  ep      : Byte
  cluster : Half
  id      : Half
deriving DecidableEq, Repr

/-- What `WIDTH(tag)` answers (30_encoding.md R103). -/
inductive Width where
  | fixed (n : Nat)
  | prefixed
  | unknown
deriving DecidableEq, Repr

/-- A row of ATTR_TABLE (10_state.md R33): key, type tag, and the value at reset (`none` is "unset"). -/
structure AttrRow where
  key  : Key
  tag  : Byte
  init : Option (List Byte)
deriving DecidableEq, Repr

/-- A row of EP_TABLE: an endpoint descriptor (10_state.md R37). -/
structure EpDesc where
  endpoint    : Byte
  profile     : Half
  device      : Half
  version     : Byte
  inClusters  : List Half
  outClusters : List Half
deriving DecidableEq, Repr

/-- The wire constants (00_scope.md R9), one parameter each (D23). `hdrLen` enters the test for a short CL frame (R231;
log entry 26); `mgSimpleDescRsp` to `mgUnbindRsp` name the four response rows, and the arms that answer compute the
cluster they send to from the request's (R261; log entry 17). -/
structure Wire where
  hdrLen            : Nat
  fkReport          : Byte
  fkResponse        : Byte
  cmdReadAttr       : Byte
  cmdReadAttrRsp    : Byte
  cmdReportAttr     : Byte
  cmdDefaultRsp     : Byte
  stSuccess         : Byte
  stUnsupportedAttr : Byte
  mgProfile         : Half
  mgSimpleDescReq   : Half
  mgSimpleDescRsp   : Half
  mgActiveEpReq     : Half
  mgActiveEpRsp     : Half
  mgBindReq         : Half
  mgBindRsp         : Half
  mgUnbindReq       : Half
  mgUnbindRsp       : Half
  mgNwkAddrRsp      : Half
  mgIeeeAddrRsp     : Half
  mgNodeDescRsp     : Half
deriving DecidableEq, Repr

/-- The whole configuration (R40). -/
structure Config where
  /-- Poll budget of SCANNING (R7). -/
  n1 : Nat
  /-- Poll budget of BODY (R7). -/
  n2 : Nat
  /-- Poll budget of TAIL (R7). -/
  n3 : Nat
  /-- Poll intervals in milliseconds (R7); no rule depends on them (R312; log entry 24). -/
  t1 : Nat
  t2 : Nat
  t3 : Nat
  startMark  : Byte
  endMark    : Byte
  csumDigits : Nat
  /-- Capacity of the telegram buffer; `none` is unbounded (R7). -/
  bufCap : Option Nat
  wire   : Wire
  /-- The rows of WIDTH that are not `unknown` (R103). -/
  widths    : List (Byte × Width)
  attrTable : List AttrRow
  epTable   : List EpDesc
  /-- Report addressing (R11). -/
  reportDest  : Identity
  reportDstEp : Byte
  profileId   : Half
deriving DecidableEq, Repr

/-- The defaults of R9. HDR_LEN is the source's; the others are PRESUMED (the spec takes them from general knowledge, G3
and G4), unsafe only for a claim about this configuration; log entry 20. -/
def Wire.default : Wire where
  hdrLen            := 3
  fkReport          := 0x08
  fkResponse        := 0x18
  cmdReadAttr       := 0x00
  cmdReadAttrRsp    := 0x01
  cmdReportAttr     := 0x0A
  cmdDefaultRsp     := 0x0B
  stSuccess         := 0x00
  stUnsupportedAttr := 0x86
  mgProfile         := 0x0000
  mgSimpleDescReq   := 0x0004
  mgSimpleDescRsp   := 0x8004
  mgActiveEpReq     := 0x0005
  mgActiveEpRsp     := 0x8005
  mgBindReq         := 0x0021
  mgBindRsp         := 0x8021
  mgUnbindReq       := 0x0022
  mgUnbindRsp       := 0x8022
  mgNwkAddrRsp      := 0x8000
  mgIeeeAddrRsp     := 0x8001
  mgNodeDescRsp     := 0x8002

/-- The default WIDTH table (R103). PRESUMED (G5), log entry 20. -/
def defaultWidths : List (Byte × Width) :=
  [ (0x18, .fixed 1), (0x1B, .fixed 4), (0x20, .fixed 1), (0x21, .fixed 2), (0x22, .fixed 3),
    (0x23, .fixed 4), (0x24, .fixed 5), (0x25, .fixed 6), (0x30, .fixed 1), (0x41, .prefixed) ]

/-- The example ATTR_TABLE of 95_test_vectors.md 1.3. DESIGN CHOICE (R10 leaves the table open), log entry 4. -/
def exampleAttrTable : List AttrRow :=
  [ ⟨⟨1, 0x0702, 0x0000⟩, 0x25, none⟩,
    ⟨⟨1, 0x0702, 0x0100⟩, 0x25, none⟩,
    ⟨⟨1, 0x0702, 0x0102⟩, 0x25, none⟩,
    ⟨⟨1, 0x0702, 0x0300⟩, 0x30, some [0x00]⟩,
    ⟨⟨1, 0x0702, 0x0302⟩, 0x22, some [0xE8, 0x03, 0x00]⟩,
    ⟨⟨1, 0x0B04, 0x0505⟩, 0x21, none⟩,
    ⟨⟨1, 0x0B04, 0x0508⟩, 0x21, none⟩,
    ⟨⟨1, 0x0000, 0x0005⟩, 0x41, some [0x03, 0x5A, 0x50, 0x31]⟩,
    ⟨⟨2, 0x0702, 0x0000⟩, 0x25, none⟩,
    ⟨⟨2, 0x0702, 0x0300⟩, 0x30, some [0x01]⟩ ]

/-- The example EP_TABLE of 95_test_vectors.md 1.3. DESIGN CHOICE (R10 leaves the table open), log entry 4. -/
def exampleEpTable : List EpDesc :=
  [ ⟨1, 0x0104, 0x0053, 0, [0x0000, 0x0702, 0x0B04], []⟩,
    ⟨2, 0x0104, 0x0053, 0, [0x0702], []⟩ ]

/-- The configuration the state has at reset: the defaults of R7, R9 and R103, and the example tables and report
addressing of 95_test_vectors.md 1.3 (DESIGN CHOICE, log entry 4). -/
def Config.default : Config where
  n1 := 10
  n2 := 100
  n3 := 10
  t1 := 50
  t2 := 10
  t3 := 10
  startMark   := 0x2F
  endMark     := 0x21
  csumDigits  := 4
  bufCap      := none
  wire        := Wire.default
  widths      := defaultWidths
  attrTable   := exampleAttrTable
  epTable     := exampleEpTable
  reportDest  := 0x0000
  reportDstEp := 1
  profileId   := 0x0104

/-- The transport's answer to a transmit for which the state holds no answer (R13, R278: an oracle under no law).
A free value: nothing constrains it (safe; log entry 3). -/
opaque Config.transmitAnswer : Nat → Bool

/-- The length byte of a descriptor too long for one byte (R253; R12 leaves `le_1` of such a number undefined).
A free value (safe; log entry 14). -/
opaque Config.freeByte : Nat → Byte

end Sys2Proof
end

