-- ==== Sys2Proof/Syntax.lean ====
section
/-! DEFINITION. The syntax: one constructor of `Instr` for each row of spec/opcode_table.json, the envelopes of R108,
and the four formats (HOST, CL, MG, TEXT) in which an instruction is written down. -/

namespace Sys2Proof

/-- The addressing part that a delivery and a transmit share (30_encoding.md R108): the other party (the sender of a
delivery, the destination of a transmit), the source endpoint and the destination endpoint. -/
structure Route where
  party : Identity
  srcEp : Byte
  dstEp : Byte
deriving DecidableEq, Repr

/-- Delivery envelope, the operand of FRAME.RX (R108): sender and endpoints, cluster, profile, payload. -/
structure Envelope where
  route   : Route
  cluster : Half
  profile : Half
  payload : List Byte
deriving DecidableEq, Repr

/-- Transmit envelope, the arguments of `transmit` (R108): destination and endpoints, cluster, profile, frame. -/
structure TxEnvelope where
  route   : Route
  cluster : Half
  profile : Half
  frame   : List Byte
deriving DecidableEq, Repr

/-- One record of a report (30_encoding.md R99). -/
structure AttrRecord where
  id    : Half
  tag   : Byte
  value : List Byte
deriving DecidableEq, Repr

/-- One result of a read-attributes response (30_encoding.md R101). -/
inductive AttrResult where
  | found (id : Half) (tag : Byte) (value : List Byte)
  | unsupported (id : Half)
deriving DecidableEq, Repr

/-- An input of the machine: a host command as bytes (its layout is the model's, log entry 1), a delivery of the
transport (R108), or a whole telegram handed over by the byte source (log entry 8). -/
inductive Input where
  | host (bytes : List Byte)
  | deliver (env : Envelope)
  | text (bytes : List Byte)
deriving DecidableEq, Repr

/-- The written form of an instruction: an input of the machine, or a frame the block hands to the transport. -/
inductive Packet where
  | input (i : Input)
  | output (tx : TxEnvelope)
deriving DecidableEq, Repr

/-- Why a packet stands for no instruction. Host commands have typed operands (R90); the first three name bytes that
are no such operands in the model's layout (log entry 1). -/
inductive DecodeError where
  /-- A host command of no bytes. -/
  | emptyCommand
  /-- The operand bytes do not have the length the code's operands have. -/
  | operandLength
  /-- The byte of a 1-bit operand is neither 0 nor 1 (R92). -/
  | operandBit
  /-- The bytes are not one telegram (R93). -/
  | notATelegram
  /-- The frame is none that the block sends (R98, R101, R253 to R257). -/
  | notAnOutboundFrame
deriving DecidableEq, Repr

/-- The instructions: one constructor for each row of spec/opcode_table.json. -/
inductive Instr where
  -- HOST rows (30_encoding.md R91)
  | crcClr
  | crcUpd (b : Byte)
  | crcRd
  | csum (s : List Byte)
  | acqStart
  | acqPoll (c : List Byte)
  | acqRel
  | acqRd
  | tverify
  | attrWr (k : Key) (force : Bool) (v : List Byte)
  | attrTouch (k : Key) (force : Bool)
  | attrRd (k : Key)
  | dirtyClr (ep : Byte)
  | report (ep : Byte)
  | frameRx (env : Envelope)
  | reset
  | cfgPolicy (p : Bool)
  -- reserved HOST codes (R112); whatever follows the code is not looked at (log entry 9)
  | reserved04To0F (code : Byte) (operands : List Byte)
  | reserved14To1F (code : Byte) (operands : List Byte)
  | reserved21To2F (code : Byte) (operands : List Byte)
  | reserved34To3F (code : Byte) (operands : List Byte)
  | reserved41To4F (code : Byte) (operands : List Byte)
  | reserved51ToEF (code : Byte) (operands : List Byte)
  | reservedF2ToFF (code : Byte) (operands : List Byte)
  -- CL rows (R97 to R102, R231)
  | clReadAttr (r : Route) (cluster profile : Half) (kind seq : Byte) (args : List Byte)
  | clReadAttrRsp (r : Route) (cluster profile : Half) (seq : Byte) (results : List AttrResult)
  | clReportAttr (r : Route) (cluster profile : Half) (seq : Byte) (records : List AttrRecord)
  | clDefaultRsp (r : Route) (cluster profile : Half) (kind seq : Byte) (args : List Byte)
  | clOther (r : Route) (cluster profile : Half) (kind seq cmd : Byte) (args : List Byte)
  | clShort (r : Route) (cluster profile : Half) (payload : List Byte)
  -- MG rows (R106, R250 to R261); `rest` is what follows the fixed part of the body
  | mgSimpleDescReq (r : Route) (tseq : Byte) (addr : Half) (endpoint : Byte) (rest : List Byte)
  | mgSimpleDescRsp (r : Route) (tseq : Byte) (addr : Half) (len : Byte) (desc : EpDesc)
  | mgActiveEpReq (r : Route) (tseq : Byte) (addr : Half) (rest : List Byte)
  | mgActiveEpRsp (r : Route) (tseq : Byte) (addr : Half) (endpoints : List Byte)
  | mgBindReq (r : Route) (tseq : Byte) (body : List Byte)
  | mgBindRsp (r : Route) (tseq : Byte)
  | mgUnbindReq (r : Route) (tseq : Byte) (body : List Byte)
  | mgUnbindRsp (r : Route) (tseq : Byte)
  | mgNwkAddrRsp (r : Route) (tseq status : Byte) (long : BitVec 64) (short : Half) (rest : List Byte)
  | mgIeeeAddrRsp (r : Route) (tseq status : Byte) (long : BitVec 64) (short : Half) (rest : List Byte)
  | mgNodeDescRsp (r : Route) (tseq : Byte) (body : List Byte)
  | mgOther (r : Route) (cluster : Half) (tseq : Byte) (body : List Byte)
  | mgShort (r : Route) (cluster : Half) (payload : List Byte)
  -- TEXT row (R93)
  | telegram (body digits : List Byte)
deriving DecidableEq, Repr

end Sys2Proof
end

