-- ==== Sys2Proof/Machine/Operands.lean ====
section
/-! DEFINITION. Operand forms: byte order (R12, R62), searching (R12), hex digits and the checksum field (R95, R96),
widths and well-formed values (R103), numeric values (R104), table lookups (R199, R37), and the conditions a configuration meets (R303). -/

namespace Sys2Proof

/-! ### Byte order (R12, R62) -/

/-- `le_n(v)`: the `n` bytes of `v`, least significant first (R12). -/
def leN : Nat → Nat → List Byte
  | 0, _ => []
  | n + 1, v => BitVec.ofNat 8 v :: leN n (v / 256)

/-- `from_le(s)`: the sum of `s[k] * 256^k` (R12). -/
def fromLe : List Byte → Nat
  | [] => 0
  | b :: s => b.toNat + 256 * fromLe s

/-- `le_2` of a 16-bit field (R62). -/
def le16 (v : Half) : List Byte := leN 2 v.toNat

/-- `from_le` of two bytes, the first one the least significant (R62). -/
def word16 (lo hi : Byte) : Half := BitVec.ofNat 16 (fromLe [lo, hi])

/-- A one-byte count or length (R107, R255). -/
def countByte (n : Nat) : Byte := BitVec.ofNat 8 n

/-- `find(s, b)`: the least index that holds `b` (R12). -/
def findByte (b : Byte) (s : List Byte) : Option Nat := s.findIdx? (· == b)

/-- The ids of a read-attributes request; an odd last byte is ignored (R100, R234). -/
def idsOf : List Byte → List Half
  | lo :: hi :: rest => word16 lo hi :: idsOf rest
  | _ => []

/-! ### Hex digits and the checksum field (R63, R95, R96) -/

/-- `hexval(b)`; `none` is invalid (R95). -/
def hexVal (b : Byte) : Option Nat :=
  if 0x30 ≤ b.toNat ∧ b.toNat ≤ 0x39 then some (b.toNat - 0x30)
  else if 0x41 ≤ b.toNat ∧ b.toNat ≤ 0x46 then some (b.toNat - 0x41 + 10)
  else if 0x61 ≤ b.toNat ∧ b.toNat ≤ 0x66 then some (b.toNat - 0x61 + 10)
  else none

/-- The number of four hex digits, the most significant first (R63, R96); `none` is invalid. -/
def hexField : List Byte → Option Half
  | [h0, h1, h2, h3] =>
    match hexVal h0, hexVal h1, hexVal h2, hexVal h3 with
    | some d0, some d1, some d2, some d3 => some (BitVec.ofNat 16 (4096 * d0 + 256 * d1 + 16 * d2 + d3))
    | _, _, _, _ => none
  | _ => none

/-- `csum_field(T)`: the last four bytes of `T` as hex digits, invalid if there are fewer (R96). The last four
bytes whatever CSUM_DIGITS is (log entry 18). -/
def csumField (t : List Byte) : Option Half := hexField (t.drop (t.length - 4))

/-- `dig(n)`: the upper-case hex digit of `n` (R184). -/
def hexDigit (n : Nat) : Byte := if n ≤ 9 then BitVec.ofNat 8 (0x30 + n) else BitVec.ofNat 8 (0x41 + n - 10)

/-- `hex4(v)`: the four hex digits of `v`, the most significant first (R184). The block never builds one. -/
def hex4 (v : Half) : List Byte :=
  [ hexDigit (v.extractLsb' 12 4).toNat, hexDigit (v.extractLsb' 8 4).toNat,
    hexDigit (v.extractLsb' 4 4).toNat, hexDigit (v.extractLsb' 0 4).toNat ]

/-! ### Tables (R103, R199, R37) -/

/-- `WIDTH(tag)` (R103). -/
def Config.width (c : Config) (tag : Byte) : Width := (c.widths.lookup tag).getD .unknown

/-- The value is well-formed for the tag (R103). -/
def Config.valueWf (c : Config) (tag : Byte) (v : List Byte) : Bool :=
  match c.width tag with
  | .fixed n => v.length == n
  | .prefixed =>
    match v with
    | [] => false
    | l :: s => s.length == l.toNat
  | .unknown => false

/-- The value of a numeric attribute: `le_N(x)`, with `N` the fixed width of the tag (R104). `none` where the tag has no
fixed width or the integer does not fit it, where `le_N` is not defined (R12, U6). -/
def Config.numericValue (c : Config) (tag : Byte) (x : Nat) : Option (List Byte) :=
  match c.width tag with
  | .fixed n => if x < 256 ^ n then some (leN n x) else none
  | .prefixed => none
  | .unknown => none

/-- The decimal digit a byte is the ASCII code of (R104). -/
def decVal (b : Byte) : Option Nat :=
  if 0x30 ≤ b.toNat ∧ b.toNat ≤ 0x39 then some (b.toNat - 0x30) else none

/-- The integer of a digit string: its decimal points removed, the rest read as an unsigned decimal number (R104). A
string with any other byte, or with no digit, is no digit string (DESIGN CHOICE, safe; log entry 28). -/
def digitsValue (s : List Byte) : Option Nat :=
  match s.filter (· != 0x2E) with
  | [] => none
  | d :: ds => (d :: ds).foldlM (fun n b => (decVal b).map (10 * n + ·)) 0

/-- `lookup(ep, cluster, id)`: the row of ATTR_TABLE with that key, if there is one (R199). -/
def Config.row (c : Config) (k : Key) : Option AttrRow := c.attrTable.find? (fun r => r.key == k)

/-- The endpoint number occurs in a row of ATTR_TABLE (R192). -/
def Config.hasEndpoint (c : Config) (ep : Byte) : Bool := c.attrTable.any (fun r => r.key.ep == ep)

/-- The row of EP_TABLE with that endpoint number, if there is one (R252). -/
def Config.epDesc (c : Config) (ep : Byte) : Option EpDesc := c.epTable.find? (fun e => e.endpoint == ep)

/-- A telegram buffer of `n` bytes is within BUF_CAP (R24, R160). -/
def Config.fits (c : Config) (n : Nat) : Bool :=
  match c.bufCap with
  | none => true
  | some cap => n ≤ cap

/-- The place of a key in the space ATTR: its three fields side by side, so that distinct keys have distinct places.
The spec indexes the space by keys (R60); the number is the model's (log entry 21). -/
def Key.addr (k : Key) : Nat := (k.ep.toNat * 65536 + k.cluster.toNat) * 65536 + k.id.toNat

/-! ### Short CL frames, MG response clusters and command groups (R9, R97, R106, R261) -/

/-- A CL frame is short: it has fewer bytes than HDR_LEN (R113, R231), or than the three bytes of a header (R97, R232).
The two agree at HDR_LEN = 3; for another HDR_LEN see log entry 26 (DEDUCED, safe). -/
def Wire.shortCl (w : Wire) (payload : List Byte) : Bool := payload.length < max w.hdrLen 3

/-- A response travels with the request's cluster with bit 15 set (R106, R261). -/
def rspCluster (cluster : Half) : Half := cluster ||| 0x8000

/-- The MG clusters that have an inbound arm (R111). -/
def Wire.mgCommands (w : Wire) : List Half :=
  [ w.mgSimpleDescReq, w.mgActiveEpReq, w.mgBindReq, w.mgUnbindReq,
    w.mgNwkAddrRsp, w.mgIeeeAddrRsp, w.mgNodeDescRsp ]

/-- The clusters that name the four MG response rows (R9; log entry 17). -/
def Wire.mgResponses (w : Wire) : List Half :=
  [ w.mgSimpleDescRsp, w.mgActiveEpRsp, w.mgBindRsp, w.mgUnbindRsp ]

/-- "the values within one group are pairwise distinct" (R9). Which groups: frame kinds, commands, statuses, MG clusters
(DEDUCED, safe; log entry 29). -/
abbrev Wire.Distinct (w : Wire) : Prop :=
  w.fkReport ≠ w.fkResponse ∧
  [w.cmdReadAttr, w.cmdReadAttrRsp, w.cmdReportAttr, w.cmdDefaultRsp].Nodup ∧
  w.stSuccess ≠ w.stUnsupportedAttr ∧
  (w.mgCommands ++ w.mgResponses).Nodup

/-- A row of ATTR_TABLE: its tag has a width, and its reset value is unset or well-formed (R103, R303). -/
abbrev Config.RowOk (c : Config) (r : AttrRow) : Prop :=
  c.width r.tag ≠ .unknown ∧ ∀ v ∈ r.init, c.valueWf r.tag v = true

/-- The lists of an endpoint descriptor fit their count bytes (R37). -/
abbrev EpDesc.CountsFit (e : EpDesc) : Prop := e.inClusters.length ≤ 255 ∧ e.outClusters.length ≤ 255

/-- The conditions on a configuration (R303, R9, R37; U7 puts any other configuration outside the model's domain).
That the two markers differ is DEDUCED (R156 relies on it), safe; log entry 16. -/
abbrev Config.WellFormed (c : Config) : Prop :=
  (1 ≤ c.n1 ∧ 1 ≤ c.n2 ∧ 1 ≤ c.n3) ∧
  (∀ cap ∈ c.bufCap, 6 ≤ cap) ∧
  c.startMark ≠ c.endMark ∧
  c.wire.Distinct ∧
  ((c.attrTable.map AttrRow.key).Nodup ∧ ∀ r ∈ c.attrTable, c.RowOk r) ∧
  ((c.epTable.map EpDesc.endpoint).Nodup ∧ c.epTable.length ≤ 255 ∧ ∀ e ∈ c.epTable, e.CountsFit)

end Sys2Proof
end

