-- ==== Sys2Proof/Machine/Frames.lean ====
section
/-! DEFINITION. The bytes of the frames the block sends (30_encoding.md R97 to R107, 46_management.md R253 to R257) and of
a telegram (R93). The encoder and the meanings both write frames with these functions. -/

namespace Sys2Proof

/-- `rec(k)`: id, tag, value (R99). -/
def AttrRecord.bytes (r : AttrRecord) : List Byte := le16 r.id ++ r.tag :: r.value

/-- `res(id)` (R101, R235). -/
def AttrResult.bytes (w : Wire) : AttrResult → List Byte
  | .found id tag value => le16 id ++ w.stSuccess :: tag :: value
  | .unsupported id => le16 id ++ [w.stUnsupportedAttr]

/-- `report_frame(s, members)` (R98, R217). -/
def reportFrame (w : Wire) (seq : Byte) (records : List AttrRecord) : List Byte :=
  w.fkReport :: seq :: w.cmdReportAttr :: records.flatMap AttrRecord.bytes

/-- Read-attributes response (R101). -/
def readAttrRspFrame (w : Wire) (seq : Byte) (results : List AttrResult) : List Byte :=
  w.fkResponse :: seq :: w.cmdReadAttrRsp :: results.flatMap (AttrResult.bytes w)

/-- A cluster list with its count byte (R107). -/
def clusterList (cs : List Half) : List Byte := countByte cs.length :: cs.flatMap le16

/-- `desc(e)` (R107). -/
def EpDesc.bytes (e : EpDesc) : List Byte :=
  e.endpoint :: (le16 e.profile ++ (le16 e.device ++ e.version :: (clusterList e.inClusters ++ clusterList e.outClusters)))

/-- Descriptor response (R253), with its length byte given. -/
def simpleDescRspFrame (w : Wire) (tseq : Byte) (addr : Half) (len : Byte) (e : EpDesc) : List Byte :=
  tseq :: w.stSuccess :: (le16 addr ++ len :: e.bytes)

/-- Active-endpoint response (R255). -/
def activeEpRspFrame (w : Wire) (tseq : Byte) (addr : Half) (endpoints : List Byte) : List Byte :=
  tseq :: w.stSuccess :: (le16 addr ++ countByte endpoints.length :: endpoints)

/-- Bind and unbind response (R256, R257). -/
def ackFrame (w : Wire) (tseq : Byte) : List Byte := [tseq, w.stSuccess]

/-- Body of an address response: status, long address, short address, later bytes (R258). -/
def addrRspBody (status : Byte) (long : BitVec 64) (short : Half) (rest : List Byte) : List Byte :=
  status :: (leN 8 long.toNat ++ (le16 short ++ rest))

/-- A telegram: start marker, body, end marker, checksum field (R93). -/
def telegramBytes (c : Config) (body digits : List Byte) : List Byte :=
  c.startMark :: (body ++ c.endMark :: digits)

/-- The endpoints of a route exchanged: how a response is addressed (R236, R261). -/
def Route.reply (r : Route) : Route := { r with srcEp := r.dstEp, dstEp := r.srcEp }

/-- The transmit envelope of an MG response (R261), its cluster given. -/
def mgResponse (w : Wire) (r : Route) (cluster : Half) (frame : List Byte) : TxEnvelope :=
  { route := r, cluster := cluster, profile := w.mgProfile, frame := frame }

end Sys2Proof
end

