-- ==== Sys2Proof/WellFormed.lean ====
section
/-! DEFINITION. Which terms of `Instr` are instructions of the opcode table: the conditions that the types of the operands
do not already say. Each is read from the row's match (spec/opcode_table.json) and its rule. -/

namespace Sys2Proof

/-- A host code within a reserved range (R112). -/
def codeIn (lo hi : Nat) (code : Byte) : Bool := decide (lo ≤ code.toNat ∧ code.toNat ≤ hi)

/-- A frame of namespace CL. Of an inbound frame R109 says so (D18); that an OUTBOUND frame's namespace is told by its
profile too is the model's (DESIGN CHOICE, log entry 27). -/
def clProfile (c : Config) (profile : Half) : Bool := profile != c.wire.mgProfile

/-- An inbound frame of namespace CL with these arguments is not short (R231; log entry 26). -/
def clWhole (c : Config) (profile : Half) (args : List Byte) : Bool :=
  clProfile c profile && decide (c.wire.hdrLen ≤ args.length + 3)

/-- The MG frame is shorter than its arm needs (R251, R279: an empty frame of any command; then, of a known command,
a body shorter than the fixed part the arm reads). -/
def mgTooShort (w : Wire) (cluster : Half) (payload : List Byte) : Bool :=
  if payload.length < 1 then true
  else if cluster = w.mgSimpleDescReq then payload.length < 4
  else if cluster = w.mgActiveEpReq then payload.length < 3
  else if cluster = w.mgBindReq then false
  else if cluster = w.mgUnbindReq then false
  else if cluster = w.mgNwkAddrRsp then payload.length < 12
  else if cluster = w.mgIeeeAddrRsp then payload.length < 12
  else false

/-- A record or result whose value is well-formed for its tag (R103), so that a reader finds its end (R115). -/
def AttrResult.wf (c : Config) : AttrResult → Bool
  | .found _ tag v => c.valueWf tag v
  | .unsupported _ => true

/-- The length byte of a descriptor response: the length where one byte holds it (R253); any byte where none does
(log entry 14). -/
def lenByteOk (len : Byte) (e : EpDesc) : Bool := 256 ≤ e.bytes.length || len == countByte e.bytes.length

/-- The term is an instruction of the opcode table. An outbound CL row has a profile other than MG_PROFILE (DESIGN CHOICE, log
entry 27). -/
def Instr.wf (c : Config) : Instr → Bool
  | .crcClr => true
  | .crcUpd _ => true
  | .crcRd => true
  | .csum _ => true
  | .acqStart => true
  | .acqPoll _ => true
  | .acqRel => true
  | .acqRd => true
  | .tverify => true
  | .attrWr _ _ _ => true
  | .attrTouch _ _ => true
  | .attrRd _ => true
  | .dirtyClr _ => true
  | .report _ => true
  | .frameRx _ => true
  | .reset => true
  | .cfgPolicy _ => true
  | .reserved04To0F code _ => codeIn 0x04 0x0F code
  | .reserved14To1F code _ => codeIn 0x14 0x1F code
  | .reserved21To2F code _ => codeIn 0x21 0x2F code
  | .reserved34To3F code _ => codeIn 0x34 0x3F code
  | .reserved41To4F code _ => codeIn 0x41 0x4F code
  | .reserved51ToEF code _ => codeIn 0x51 0xEF code
  | .reservedF2ToFF code _ => codeIn 0xF2 0xFF code
  | .clReadAttr _ _ profile _ _ args => clWhole c profile args
  | .clReadAttrRsp _ _ profile _ results => clProfile c profile && results.all (AttrResult.wf c)
  | .clReportAttr _ _ profile _ records =>
    clProfile c profile && !records.isEmpty && records.all (fun r => c.valueWf r.tag r.value)
  | .clDefaultRsp _ _ profile _ _ args => clWhole c profile args
  | .clOther _ _ profile _ _ cmd args => clWhole c profile args && cmd != c.wire.cmdReadAttr && cmd != c.wire.cmdDefaultRsp
  | .clShort _ _ profile payload => clProfile c profile && c.wire.shortCl payload
  | .mgSimpleDescReq _ _ _ _ _ => true
  | .mgSimpleDescRsp _ _ _ len e => decide e.CountsFit && lenByteOk len e
  | .mgActiveEpReq _ _ _ _ => true
  | .mgActiveEpRsp _ _ _ endpoints => decide (endpoints.length ≤ 255)
  | .mgBindReq _ _ _ => true
  | .mgBindRsp _ _ => true
  | .mgUnbindReq _ _ _ => true
  | .mgUnbindRsp _ _ => true
  | .mgNwkAddrRsp _ _ _ _ _ _ => true
  | .mgIeeeAddrRsp _ _ _ _ _ _ => true
  | .mgNodeDescRsp _ _ _ => true
  | .mgOther _ cluster _ _ => !c.wire.mgCommands.contains cluster
  | .mgShort _ cluster payload => mgTooShort c.wire cluster payload
  | .telegram body digits => !body.contains c.endMark && digits.length == c.csumDigits

end Sys2Proof
end

