-- ==== Sys2Proof/Decode.lean ====
section
/-! DEFINITION. The decoder, total on every packet and rejecting by name, and after it the encoder. A host command is
bytes in the model's layout (log entry 1): the code, then the operands in the table's order, each of fixed width and
little-endian, a byte sequence last and taking the rest. The frame and telegram formats are the spec's (R93 to R107). -/

namespace Sys2Proof

/-! ### HOST commands (R91, R112) -/

/-- An operation without operands. -/
def noOperands (i : Instr) : List Byte → Except DecodeError Instr
  | [] => .ok i
  | _ :: _ => .error .operandLength

/-- An operation with one byte of operand. -/
def byteOperand (f : Byte → Except DecodeError Instr) : List Byte → Except DecodeError Instr
  | [b] => f b
  | _ => .error .operandLength

/-- A 1-bit operand, in a byte (R92). -/
def bitOperand (f : Bool → Except DecodeError Instr) (b : Byte) : Except DecodeError Instr :=
  if b = 0x00 then f false else if b = 0x01 then f true else .error .operandBit

/-- A key (`ep`, `cluster`, `id`), then the rest. -/
def keyOperand (f : Key → List Byte → Except DecodeError Instr) : List Byte → Except DecodeError Instr
  | ep :: c0 :: c1 :: i0 :: i1 :: rest => f ⟨ep, word16 c0 c1, word16 i0 i1⟩ rest
  | _ => .error .operandLength

/-- A delivery envelope in the order of R108. -/
def envelopeOperand : List Byte → Except DecodeError Instr
  | s0 :: s1 :: s2 :: s3 :: s4 :: s5 :: s6 :: s7 :: src :: dst :: c0 :: c1 :: p0 :: p1 :: payload =>
    .ok (.frameRx
      { route := ⟨BitVec.ofNat 64 (fromLe [s0, s1, s2, s3, s4, s5, s6, s7]), src, dst⟩
        cluster := word16 c0 c1
        profile := word16 p0 p1
        payload := payload })
  | _ => .error .operandLength

/-- The operation of a host code and its operand bytes: the table of R91, then the reserved ranges of R112. -/
def decodeCommand (code : Byte) (ops : List Byte) : Except DecodeError Instr :=
  if code = 0x00 then noOperands .crcClr ops
  else if code = 0x01 then byteOperand (fun b => .ok (.crcUpd b)) ops
  else if code = 0x02 then noOperands .crcRd ops
  else if code = 0x03 then .ok (.csum ops)
  else if code = 0x10 then noOperands .acqStart ops
  else if code = 0x11 then .ok (.acqPoll ops)
  else if code = 0x12 then noOperands .acqRel ops
  else if code = 0x13 then noOperands .acqRd ops
  else if code = 0x20 then noOperands .tverify ops
  else if code = 0x30 then
    keyOperand (fun k rest =>
      match rest with
      | b :: v => bitOperand (fun force => .ok (.attrWr k force v)) b
      | [] => .error .operandLength) ops
  else if code = 0x31 then
    keyOperand (fun k rest => byteOperand (bitOperand (fun force => .ok (.attrTouch k force))) rest) ops
  else if code = 0x32 then keyOperand (fun k rest => noOperands (.attrRd k) rest) ops
  else if code = 0x33 then byteOperand (fun ep => .ok (.dirtyClr ep)) ops
  else if code = 0x40 then byteOperand (fun ep => .ok (.report ep)) ops
  else if code = 0x50 then envelopeOperand ops
  else if code = 0xF0 then noOperands .reset ops
  else if code = 0xF1 then byteOperand (bitOperand (fun p => .ok (.cfgPolicy p))) ops
  else if codeIn 0x04 0x0F code then .ok (.reserved04To0F code ops)
  else if codeIn 0x14 0x1F code then .ok (.reserved14To1F code ops)
  else if codeIn 0x21 0x2F code then .ok (.reserved21To2F code ops)
  else if codeIn 0x34 0x3F code then .ok (.reserved34To3F code ops)
  else if codeIn 0x41 0x4F code then .ok (.reserved41To4F code ops)
  else if codeIn 0x51 0xEF code then .ok (.reserved51ToEF code ops)
  else .ok (.reservedF2ToFF code ops)

/-- A host command: its code and its operand bytes (R90). -/
def decodeHost : List Byte → Except DecodeError Instr
  | [] => .error .emptyCommand
  | code :: ops => decodeCommand code ops

/-! ### Inbound frames (R109 to R111, R113) -/

/-- The row of an inbound CL frame (R231). -/
def decodeClFrame (c : Config) (e : Envelope) : Instr :=
  match e.payload with
  | kind :: seq :: cmd :: args =>
    if c.wire.shortCl e.payload then .clShort e.route e.cluster e.profile e.payload
    else if cmd = c.wire.cmdReadAttr then .clReadAttr e.route e.cluster e.profile kind seq args
    else if cmd = c.wire.cmdDefaultRsp then .clDefaultRsp e.route e.cluster e.profile kind seq args
    else .clOther e.route e.cluster e.profile kind seq cmd args
  | short => .clShort e.route e.cluster e.profile short

/-- The row of an address-response notification, made by `f`, or MG.SHORT (R258). -/
def decodeAddrRsp (f : Byte → BitVec 64 → Half → List Byte → Instr) (short : Instr) : List Byte → Instr
  | st :: l0 :: l1 :: l2 :: l3 :: l4 :: l5 :: l6 :: l7 :: s0 :: s1 :: rest =>
    f st (BitVec.ofNat 64 (fromLe [l0, l1, l2, l3, l4, l5, l6, l7])) (word16 s0 s1) rest
  | _ => short

/-- The row of an inbound MG frame (R250, R279). -/
def decodeMgFrame (c : Config) (e : Envelope) : Instr :=
  match e.payload with
  | [] => .mgShort e.route e.cluster []
  | tseq :: body =>
    if e.cluster = c.wire.mgSimpleDescReq then
      match body with
      | a0 :: a1 :: ep :: rest => .mgSimpleDescReq e.route tseq (word16 a0 a1) ep rest
      | _ => .mgShort e.route e.cluster (tseq :: body)
    else if e.cluster = c.wire.mgActiveEpReq then
      match body with
      | a0 :: a1 :: rest => .mgActiveEpReq e.route tseq (word16 a0 a1) rest
      | _ => .mgShort e.route e.cluster (tseq :: body)
    else if e.cluster = c.wire.mgBindReq then .mgBindReq e.route tseq body
    else if e.cluster = c.wire.mgUnbindReq then .mgUnbindReq e.route tseq body
    else if e.cluster = c.wire.mgNwkAddrRsp then
      decodeAddrRsp (.mgNwkAddrRsp e.route tseq) (.mgShort e.route e.cluster (tseq :: body)) body
    else if e.cluster = c.wire.mgIeeeAddrRsp then
      decodeAddrRsp (.mgIeeeAddrRsp e.route tseq) (.mgShort e.route e.cluster (tseq :: body)) body
    else if e.cluster = c.wire.mgNodeDescRsp then .mgNodeDescRsp e.route tseq body
    else .mgOther e.route e.cluster tseq body

/-- The row of an inbound frame: the namespace is MG iff the profile is MG_PROFILE (R109). -/
def decodeDelivery (c : Config) (e : Envelope) : Instr :=
  if e.profile = c.wire.mgProfile then decodeMgFrame c e else decodeClFrame c e

/-! ### Outbound frames (R98, R101, R115, R253 to R257) -/

/-- Splits a value of the tag off the front: R115, "a reader finds the end of a record from the tag". -/
def splitValue (c : Config) (tag : Byte) (s : List Byte) : Option (List Byte × List Byte) :=
  match c.width tag with
  | .fixed n => if n ≤ s.length then some (s.take n, s.drop n) else none
  | .prefixed =>
    match s with
    | [] => none
    | l :: r => if l.toNat ≤ r.length then some (l :: r.take l.toNat, r.drop l.toNat) else none
  | .unknown => none

/-- The records of a report, at most `fuel` of them (R98, R99). -/
def parseRecords (c : Config) : Nat → List Byte → Option (List AttrRecord)
  | _, [] => some []
  | fuel + 1, i0 :: i1 :: tag :: s =>
    match splitValue c tag s with
    | some (v, rest) => (parseRecords c fuel rest).map (⟨word16 i0 i1, tag, v⟩ :: ·)
    | none => none
  | _, _ => none

/-- The results of a read-attributes response, at most `fuel` of them (R101). -/
def parseResults (c : Config) : Nat → List Byte → Option (List AttrResult)
  | _, [] => some []
  | fuel + 1, i0 :: i1 :: st :: s =>
    if st = c.wire.stSuccess then
      match s with
      | tag :: s' =>
        match splitValue c tag s' with
        | some (v, rest) => (parseResults c fuel rest).map (.found (word16 i0 i1) tag v :: ·)
        | none => none
      | [] => none
    else if st = c.wire.stUnsupportedAttr then (parseResults c fuel s).map (.unsupported (word16 i0 i1) :: ·)
    else none
  | _, _ => none

/-- `n` cluster ids off the front (R107). -/
def parseClusters : Nat → List Byte → Option (List Half × List Byte)
  | 0, s => some ([], s)
  | n + 1, lo :: hi :: s => (parseClusters n s).map (fun p => (word16 lo hi :: p.1, p.2))
  | _ + 1, _ => none

/-- A count byte and that many cluster ids off the front (R107). -/
def parseClusterList : List Byte → Option (List Half × List Byte)
  | n :: s => parseClusters n.toNat s
  | [] => none

/-- `desc(e)` read back (R107); nothing may follow it. -/
def parseDesc : List Byte → Option EpDesc
  | ep :: p0 :: p1 :: d0 :: d1 :: ver :: s =>
    match parseClusterList s with
    | some (ins, s') =>
      match parseClusterList s' with
      | some (outs, []) => some ⟨ep, word16 p0 p1, word16 d0 d1, ver, ins, outs⟩
      | _ => none
    | none => none
  | _ => none

/-- The row of an outbound CL frame (R98, R101). -/
def decodeClOutbound (c : Config) (t : TxEnvelope) : Option Instr :=
  match t.frame with
  | kind :: seq :: cmd :: args =>
    if kind = c.wire.fkResponse ∧ cmd = c.wire.cmdReadAttrRsp then
      (parseResults c args.length args).map (.clReadAttrRsp t.route t.cluster t.profile seq)
    else if kind = c.wire.fkReport ∧ cmd = c.wire.cmdReportAttr then
      match parseRecords c args.length args with
      | some (r :: rs) => some (.clReportAttr t.route t.cluster t.profile seq (r :: rs))
      | _ => none
    else none
  | _ => none

/-- The row of an outbound MG frame: its cluster is the row's constant (R9, R253 to R257; log entry 17). -/
def decodeMgOutbound (c : Config) (t : TxEnvelope) : Option Instr :=
  match t.frame with
  | tseq :: st :: s =>
    if st ≠ c.wire.stSuccess then none
    else if t.cluster = c.wire.mgSimpleDescRsp then
      match s with
      | a0 :: a1 :: len :: d =>
        match parseDesc d with
        | some e => if lenByteOk len e then some (.mgSimpleDescRsp t.route tseq (word16 a0 a1) len e) else none
        | none => none
      | _ => none
    else if t.cluster = c.wire.mgActiveEpRsp then
      match s with
      | a0 :: a1 :: n :: eps => if n.toNat = eps.length then some (.mgActiveEpRsp t.route tseq (word16 a0 a1) eps) else none
      | _ => none
    else if t.cluster = c.wire.mgBindRsp then
      match s with
      | [] => some (.mgBindRsp t.route tseq)
      | _ => none
    else if t.cluster = c.wire.mgUnbindRsp then
      match s with
      | [] => some (.mgUnbindRsp t.route tseq)
      | _ => none
    else none
  | _ => none

/-- The row of a frame the block hands to the transport. R109 tells the namespace of an INBOUND frame only; that an
outbound frame's is told by its profile too is the model's (DESIGN CHOICE, unsafe; log entry 27): with PROFILE_ID =
MG_PROFILE a frame that REPORT sends is read as an MG frame and is no CL.REPORT_ATTR row. -/
def decodeOutbound (c : Config) (t : TxEnvelope) : Except DecodeError Instr :=
  match if t.profile = c.wire.mgProfile then decodeMgOutbound c t else decodeClOutbound c t with
  | some i => .ok i
  | none => .error .notAnOutboundFrame

/-! ### Telegrams (R93) and packets -/

/-- A telegram: its body has no end marker, and the checksum field follows the first one (R93). -/
def decodeText (c : Config) : List Byte → Except DecodeError Instr
  | [] => .error .notATelegram
  | b :: s =>
    if b = c.startMark then
      match findByte c.endMark s with
      | some j =>
        if (s.drop (j + 1)).length = c.csumDigits then .ok (.telegram (s.take j) (s.drop (j + 1)))
        else .error .notATelegram
      | none => .error .notATelegram
    else .error .notATelegram

/-- The decoder of the machine's inputs. -/
def decode (c : Config) : Input → Except DecodeError Instr
  | .host bytes => decodeHost bytes
  | .deliver env => .ok (decodeDelivery c env)
  | .text bytes => decodeText c bytes

/-- The decoder of every written form. -/
def decodePacket (c : Config) : Packet → Except DecodeError Instr
  | .input i => decode c i
  | .output t => decodeOutbound c t

/-! ### Numbered words of the opcode table -/

/-- How many operand bytes a code needs at least (log entry 1). -/
def operandBytes (code : Byte) : Nat :=
  if code = 0x01 then 1
  else if code = 0x30 then 6
  else if code = 0x31 then 6
  else if code = 0x32 then 5
  else if code = 0x33 then 1
  else if code = 0x40 then 1
  else if code = 0x50 then 14
  else if code = 0xF1 then 1
  else 0

/-- The command whose first `nbits` bits are `w` and whose operand bytes above are zero. -/
def commandOfWord (nbits w : Nat) : List Byte :=
  match leN (nbits / 8) w with
  | [] => []
  | code :: ops => code :: (ops ++ List.replicate (operandBytes code - ops.length) 0x00)

/-- What the decoder reads from a numbered word of a HOST row. -/
def decodeTableWord (nbits w : Nat) : Option Instr :=
  match decodeHost (commandOfWord nbits w) with
  | .ok i => some i
  | .error _ => none

/-! ### The encoder -/

/-- A 1-bit operand as a byte. -/
def bitByte (b : Bool) : Byte := if b then 0x01 else 0x00

/-- A key as bytes. -/
def keyBytes (k : Key) : List Byte := k.ep :: (le16 k.cluster ++ le16 k.id)

/-- A delivery envelope as bytes, in the order of R108. -/
def envelopeBytes (e : Envelope) : List Byte :=
  leN 8 e.route.party.toNat ++ e.route.srcEp :: e.route.dstEp :: (le16 e.cluster ++ (le16 e.profile ++ e.payload))

/-- An inbound CL frame (R97). -/
def clDelivery (r : Route) (cluster profile : Half) (payload : List Byte) : Packet :=
  .input (.deliver ⟨r, cluster, profile, payload⟩)

/-- An inbound MG frame (R106). -/
def mgDelivery (c : Config) (r : Route) (cluster : Half) (payload : List Byte) : Packet :=
  .input (.deliver ⟨r, cluster, c.wire.mgProfile, payload⟩)

/-- An outbound CL frame (R98, R101). -/
def clOutput (r : Route) (cluster profile : Half) (frame : List Byte) : Packet := .output ⟨r, cluster, profile, frame⟩

/-- The written form of an instruction. -/
def encode (c : Config) : Instr → Packet
  | .crcClr => .input (.host [0x00])
  | .crcUpd b => .input (.host [0x01, b])
  | .crcRd => .input (.host [0x02])
  | .csum s => .input (.host (0x03 :: s))
  | .acqStart => .input (.host [0x10])
  | .acqPoll s => .input (.host (0x11 :: s))
  | .acqRel => .input (.host [0x12])
  | .acqRd => .input (.host [0x13])
  | .tverify => .input (.host [0x20])
  | .attrWr k force v => .input (.host (0x30 :: (keyBytes k ++ bitByte force :: v)))
  | .attrTouch k force => .input (.host (0x31 :: (keyBytes k ++ [bitByte force])))
  | .attrRd k => .input (.host (0x32 :: keyBytes k))
  | .dirtyClr ep => .input (.host [0x33, ep])
  | .report ep => .input (.host [0x40, ep])
  | .frameRx env => .input (.host (0x50 :: envelopeBytes env))
  | .reset => .input (.host [0xF0])
  | .cfgPolicy p => .input (.host [0xF1, bitByte p])
  | .reserved04To0F code ops => .input (.host (code :: ops))
  | .reserved14To1F code ops => .input (.host (code :: ops))
  | .reserved21To2F code ops => .input (.host (code :: ops))
  | .reserved34To3F code ops => .input (.host (code :: ops))
  | .reserved41To4F code ops => .input (.host (code :: ops))
  | .reserved51ToEF code ops => .input (.host (code :: ops))
  | .reservedF2ToFF code ops => .input (.host (code :: ops))
  | .clReadAttr r cluster profile kind seq args => clDelivery r cluster profile (kind :: seq :: c.wire.cmdReadAttr :: args)
  | .clReadAttrRsp r cluster profile seq results => clOutput r cluster profile (readAttrRspFrame c.wire seq results)
  | .clReportAttr r cluster profile seq records => clOutput r cluster profile (reportFrame c.wire seq records)
  | .clDefaultRsp r cluster profile kind seq args => clDelivery r cluster profile (kind :: seq :: c.wire.cmdDefaultRsp :: args)
  | .clOther r cluster profile kind seq cmd args => clDelivery r cluster profile (kind :: seq :: cmd :: args)
  | .clShort r cluster profile payload => clDelivery r cluster profile payload
  | .mgSimpleDescReq r tseq addr ep rest => mgDelivery c r c.wire.mgSimpleDescReq (tseq :: (le16 addr ++ ep :: rest))
  | .mgSimpleDescRsp r tseq addr len e =>
    .output (mgResponse c.wire r c.wire.mgSimpleDescRsp (simpleDescRspFrame c.wire tseq addr len e))
  | .mgActiveEpReq r tseq addr rest => mgDelivery c r c.wire.mgActiveEpReq (tseq :: (le16 addr ++ rest))
  | .mgActiveEpRsp r tseq addr eps =>
    .output (mgResponse c.wire r c.wire.mgActiveEpRsp (activeEpRspFrame c.wire tseq addr eps))
  | .mgBindReq r tseq body => mgDelivery c r c.wire.mgBindReq (tseq :: body)
  | .mgBindRsp r tseq => .output (mgResponse c.wire r c.wire.mgBindRsp (ackFrame c.wire tseq))
  | .mgUnbindReq r tseq body => mgDelivery c r c.wire.mgUnbindReq (tseq :: body)
  | .mgUnbindRsp r tseq => .output (mgResponse c.wire r c.wire.mgUnbindRsp (ackFrame c.wire tseq))
  | .mgNwkAddrRsp r tseq status long short rest =>
    mgDelivery c r c.wire.mgNwkAddrRsp (tseq :: addrRspBody status long short rest)
  | .mgIeeeAddrRsp r tseq status long short rest =>
    mgDelivery c r c.wire.mgIeeeAddrRsp (tseq :: addrRspBody status long short rest)
  | .mgNodeDescRsp r tseq body => mgDelivery c r c.wire.mgNodeDescRsp (tseq :: body)
  | .mgOther r cluster tseq body => mgDelivery c r cluster (tseq :: body)
  | .mgShort r cluster payload => mgDelivery c r cluster payload
  | .telegram body digits => .input (.text (telegramBytes c body digits))

end Sys2Proof
end

