-- ==== Sys2Proof/Machine/Sparse.lean ====
section
/-! DEFINITION. Sparse data by place: (place, datum) pairs, places strictly rising. The two keyed spaces of the block, ATTR
(20_memory.md R60) and the dirty sets (10_state.md R35), are held in this form (log entry 21). -/

namespace Sys2Proof

/-- Pairs of a place and what it holds. -/
abbrev Sparse (α : Type) := List (Nat × α)

/-- What is listed at a place. -/
def Sparse.find {α : Type} : Sparse α → Nat → Option α
  | [], _ => none
  | (a, v) :: m, k => if a = k then some v else Sparse.find m k

/-- Lists `v` at the place `k`, in order of place. -/
def Sparse.insert {α : Type} : Sparse α → Nat → α → Sparse α
  | [], k, v => [(k, v)]
  | (a, w) :: m, k, v =>
    if k < a then (k, v) :: (a, w) :: m
    else if k = a then (k, v) :: m
    else (a, w) :: Sparse.insert m k v

/-- Lists nothing at the place `k`. -/
def Sparse.erase {α : Type} : Sparse α → Nat → Sparse α
  | [], _ => []
  | (a, w) :: m, k => if a = k then m else (a, w) :: Sparse.erase m k

/-- Places strictly rise. -/
abbrev Sparse.Sorted {α : Type} (m : Sparse α) : Prop := m.Pairwise (fun p q => p.1 < q.1)

end Sys2Proof
end

