-- ==== Sys2Proof/Machine/State.lean ====
section
/-! DEFINITION. The state of the ZP1 block (10_state.md R20), the outcomes of its operations (60_exceptions.md R270), and
the state after reset (R42). -/

namespace Sys2Proof.Machine

/-- The framer's states (10_state.md R22). -/
inductive FState where
  | idle | scanning | body | tail | complete
deriving DecidableEq, Repr

/-- The status an operation returns: OK or an error outcome (00_scope.md R14, 60_exceptions.md R270). -/
inductive Status where
  | ok | acquisitionTimeout | checksumMismatch | unsupportedAttribute
  | malformedRequest | transmitFailure | illegalOperation | bufferOverflow
deriving DecidableEq, Repr

/-- The result value of an operation (30_encoding.md R91, column "result"). -/
inductive Result where
  /-- No result. -/
  | none
  /-- 16 bits: CRC.RD, CSUM. -/
  | word (v : Half)
  /-- Framer status: ACQ.POLL. -/
  | framer (f : FState)
  /-- The telegram: ACQ.RD. -/
  | bytes (s : List Byte)
  /-- 1 bit, marked dirty: ATTR.WR, ATTR.TOUCH. -/
  | marked (d : Bool)
  /-- ATTR.RD of a key that ATTR_TABLE lacks (R194). -/
  | absent
  /-- Tag and value, the value possibly unset: ATTR.RD. -/
  | attr (tag : Byte) (value : Option (List Byte))
  /-- The (frame, cluster, sent) triples of REPORT. -/
  | reports (l : List (List Byte × Half × Bool))
  /-- The (frame, sent) pairs of FRAME.RX. -/
  | frames (l : List (List Byte × Bool))
deriving DecidableEq, Repr

/-- What an operation returns (R14). -/
structure Ret where
  status : Status
  result : Result
deriving DecidableEq, Repr

/-- Log events (60_exceptions.md R286). -/
inductive LogEvent where
  | shortFrame
  | unknownClCommand (cmd : Byte)
  | unknownMgCommand (cluster : Half)
  | unknownEndpoint
deriving DecidableEq, Repr

/-- What the outside sees of an operation, in order: calls of `set_ready` (47_system.md R266), calls of `transmit` with
the transport's answer (R108, R13), log events (R286). -/
inductive OutEvent where
  | setReady (level : Bool)
  | transmit (tx : TxEnvelope) (accepted : Bool)
  | log (e : LogEvent)
deriving DecidableEq, Repr

/-- The address pair of PEER (10_state.md R38). -/
structure PeerAddr where
  long  : BitVec 64
  short : Half
deriving DecidableEq, Repr

/-- The machine. The first group is the spec's state (R20, one field for each element), the second the configuration
(R40, written by nothing), the third the model's own (log entries 2, 3, 12). -/
structure State where
  /-- `CRC` (R21). -/
  crc : Half
  /-- `FSTATE` (R22). -/
  fstate : FState
  /-- `POLLS` (R23). -/
  polls : Nat
  /-- `TBUF` (R24). -/
  tbuf : List Byte
  /-- `BANG` (R25). -/
  bang : Option Nat
  /-- `GATE` (R26). -/
  gate : Bool
  /-- `ERR` (R27). -/
  err : BitVec 3
  /-- `SEQ` (R28). -/
  seq : Byte
  /-- `FIRST_RUN` (R29). -/
  firstRun : Bool
  /-- `ALWAYS_PUBLISH` (R30). -/
  alwaysPublish : Bool
  /-- `VALUE` (R34): the values that differ from `init`, by place (log entry 21). -/
  store : Sparse (List Byte)
  /-- `DIRTY` (R35): the non-empty dirty sets, by endpoint number (log entry 21). -/
  dirty : Sparse (List Key)
  /-- `PEER` (R38); `none` is valid = 0 (log entry 11). -/
  peer : Option PeerAddr
  /-- The parameters (R40, R303). -/
  cfg : Config
  /-- Inputs not yet performed, the next one first (R70; log entry 2). -/
  pending : List Input
  /-- The transport's answers to the next transmits (log entry 3). -/
  txAnswers : List Bool
  /-- The counter the free values are applied to (log entries 3, 14). -/
  freeIdx : Nat
  /-- What the outside has seen, oldest first (log entry 12). -/
  trace : List OutEvent
  /-- What the last operation returned (R14; log entry 12). -/
  ret : Ret
deriving DecidableEq, Repr

/-- Why the machine stops with a fault: never. "Nothing in this core is fatal" (60_exceptions.md R290): every error
outcome ends in a next state (R280), so no constructor is needed (log entry 10; safe). -/
inductive Fault where
deriving DecidableEq, Repr

/-- Why a step has no meaning. -/
inductive Refusal where
  /-- Raised by an arm of `exec` whose instruction has no meaning yet; no arm is one. Safe. -/
  | notModelled (mnemonic : String)
  /-- Raised by `step` on bytes in the input queue that stand for no instruction (log entries 1, 15). Safe. -/
  | undecodable (e : DecodeError)
  /-- Raised by `step` under a configuration outside R303; 93_implementation_defined.md U7 says `refuse`. Safe (log entry 15). -/
  | illFormedConfig
deriving DecidableEq, Repr

/-- The machine right after reset, under a configuration: the table of R42; the model's own fields are empty, the
counter 0, and nothing returned yet (DESIGN CHOICE, unsafe; log entries 2, 3, 12). -/
def State.resetWith (c : Config) : State where
  crc := 0x0000
  fstate := .idle
  polls := 0
  tbuf := []
  bang := none
  gate := false
  err := 0
  seq := 0x00
  firstRun := true
  alwaysPublish := false
  store := []
  dirty := []
  peer := none
  cfg := c
  pending := []
  txAnswers := []
  freeIdx := 0
  trace := []
  ret := ⟨.ok, .none⟩

/-- The machine right after power-on (R42, R300), under the default configuration (log entry 4). -/
def State.reset : State := State.resetWith Config.default

end Sys2Proof.Machine
end

