-- ==== Sys2Proof/Machine/Ops.lean ====
section
/-! DEFINITION. The named operations over registers and memory, and the one shared operation of ending in an error
outcome (60_exceptions.md R280). There is no return from one (R281). -/

namespace Sys2Proof.Machine

/-! ### Register updates, one for each element or group written together -/

def State.setCrc (s : State) (v : Half) : State := { s with crc := v }

/-- Writes the framer's registers FSTATE, POLLS, TBUF, BANG (R22 to R25). -/
def State.setFramer (s : State) (f : FState) (n : Nat) (b : List Byte) (j : Option Nat) : State :=
  { s with fstate := f, polls := n, tbuf := b, bang := j }

def State.setGate (s : State) (b : Bool) : State := { s with gate := b }
def State.setErr (s : State) (e : BitVec 3) : State := { s with err := e }
def State.setSeq (s : State) (v : Byte) : State := { s with seq := v }
def State.setFirstRun (s : State) (b : Bool) : State := { s with firstRun := b }
def State.setAlwaysPublish (s : State) (b : Bool) : State := { s with alwaysPublish := b }
def State.setStore (s : State) (m : Sparse (List Byte)) : State := { s with store := m }
def State.setDirty (s : State) (m : Sparse (List Key)) : State := { s with dirty := m }
def State.setPeer (s : State) (p : Option PeerAddr) : State := { s with peer := p }
def State.setPending (s : State) (l : List Input) : State := { s with pending := l }

/-- Writes the model's oracle fields (log entry 3). -/
def State.setOracle (s : State) (l : List Bool) (n : Nat) : State := { s with txAnswers := l, freeIdx := n }

def State.setTrace (s : State) (l : List OutEvent) : State := { s with trace := l }
def State.setRet (s : State) (r : Ret) : State := { s with ret := r }

/-! ### Ending an operation (R14, R270, R280) -/

/-- The code of an outcome (R270). -/
def Status.code : Status → BitVec 3
  | .ok => 0
  | .acquisitionTimeout => 1
  | .checksumMismatch => 2
  | .unsupportedAttribute => 3
  | .malformedRequest => 4
  | .transmitFailure => 5
  | .illegalOperation => 6
  | .bufferOverflow => 7

/-- `return v`: the operation ends OK with a result; ERR is unchanged (R13, R27). -/
def State.returns (s : State) (r : Result) : State := s.setRet ⟨.ok, r⟩

/-- `raise e`: the operation ends in the error outcome; its code is written to ERR and its status returned, nothing is
saved and control goes nowhere (R13, R280). The state changes the outcome's rule lists are made by the caller. -/
def State.raise (s : State) (e : Status) : State := (s.setErr e.code).setRet ⟨e, .none⟩

/-- Emits an output event (log entry 12). -/
def State.emit (s : State) (e : OutEvent) : State := s.setTrace (s.trace ++ [e])

/-- "logged and dropped": MalformedRequest with a log event, and nothing sent (R277, R286). -/
def State.dropFrame (s : State) (e : LogEvent) : State := (s.emit (.log e)).raise .malformedRequest

/-! ### The transport (R13, R67, R108, R278) -/

/-- The transport's answer to the next transmit: the next one the state holds, else a free value (log entry 3). -/
def State.txAnswer (s : State) : Bool :=
  match s.txAnswers with
  | a :: _ => a
  | [] => Config.transmitAnswer s.freeIdx

/-- `transmit(…)`: hands a frame to the transport, whose answer is `txAnswer` (R13). -/
def State.transmit (s : State) (tx : TxEnvelope) : State :=
  (s.setOracle s.txAnswers.tail (s.freeIdx + 1)).emit (.transmit tx s.txAnswer)

/-- Sends one response frame; a failure is swallowed and shows only in the result (R236, R237, R261). -/
def State.respond (s : State) (tx : TxEnvelope) : State := (s.transmit tx).returns (.frames [(tx.frame, s.txAnswer)])

/-- Sends one report frame: SEQ advances iff the transport accepted it (R213, R214). -/
def State.sendReport (s : State) (tx : TxEnvelope) : State :=
  if s.txAnswer then (s.transmit tx).setSeq (s.seq + 1) else s.transmit tx

/-! ### The space ATTR (R34, R60, R66) -/

/-- What the place `a` of the space holds: what is listed, else the reset content `init` (R42; log entry 21). -/
def Memory.read (init : Option (List Byte)) (m : Sparse (List Byte)) (a : Nat) : Option (List Byte) :=
  match Sparse.find m a with
  | some v => some v
  | none => init

/-- Writes a value; a value that an unlisted place reads as is not listed (log entry 21). -/
def Memory.write (init : Option (List Byte)) (m : Sparse (List Byte)) (a : Nat) (v : List Byte) : Sparse (List Byte) :=
  if init = some v then Sparse.erase m a else Sparse.insert m a v

/-- An entry of the space: a value other than `init`, well-formed for the tag, at the place of some row (R34). -/
abbrev Memory.EntryOk (c : Config) (e : Nat × List Byte) : Prop :=
  ∃ r ∈ c.attrTable, r.key.addr = e.1 ∧ r.init ≠ some e.2 ∧ c.valueWf r.tag e.2 = true

/-- The canonical form of the space ATTR. -/
abbrev Memory.wf (c : Config) (m : Sparse (List Byte)) : Prop := Sparse.Sorted m ∧ ∀ e ∈ m, Memory.EntryOk c e

/-- `VALUE` of a row (R34). -/
def State.rowValue (s : State) (r : AttrRow) : Option (List Byte) := Memory.read r.init s.store r.key.addr

/-- `VALUE[k]`; `none` is unset, or a key that ATTR_TABLE lacks (R34). -/
def State.value (s : State) (k : Key) : Option (List Byte) :=
  match s.cfg.row k with
  | some r => s.rowValue r
  | none => none

/-- `VALUE[k] <- v` for the key of a row (R191). -/
def State.writeValue (s : State) (r : AttrRow) (v : List Byte) : State :=
  s.setStore (Memory.write r.init s.store r.key.addr v)

/-! ### Dirty sets (R35, R198) -/

/-- `DIRTY[ep]`. -/
def State.dirtyOf (s : State) (ep : Byte) : List Key := (Sparse.find s.dirty ep.toNat).getD []

/-- `DIRTY[ep] <- l`; an empty set is not listed (log entry 21). -/
def State.setDirtyOf (s : State) (ep : Byte) (l : List Key) : State :=
  s.setDirty (if l = [] then Sparse.erase s.dirty ep.toNat else Sparse.insert s.dirty ep.toNat l)

/-- A listed dirty set: keys of that endpoint, each of some row, none twice, at least one (R35). -/
abbrev DirtySets.EntryOk (c : Config) (e : Nat × List Key) : Prop :=
  e.2 ≠ [] ∧ e.2.Nodup ∧ ∀ k ∈ e.2, k.ep.toNat = e.1 ∧ (c.row k).isSome = true

/-- The canonical form of the dirty sets. -/
abbrev DirtySets.wf (c : Config) (m : Sparse (List Key)) : Prop := Sparse.Sorted m ∧ ∀ e ∈ m, DirtySets.EntryOk c e

end Sys2Proof.Machine
end

