-- ==== Sys2Proof/Machine/Flags.lean ====
section
/-! DEFINITION. The status bits of the block (10_state.md R32): GATE, the dirty policy computed from FIRST_RUN,
ALWAYS_PUBLISH and `force`, and membership in a dirty set. -/

namespace Sys2Proof.Machine

/-- Drives the ready gate: every change of its level is one call of `set_ready` (R266, R302). That driving it to the
level it has is no call is DEDUCED (C13), log entry 13. -/
def State.driveGate (s : State) (level : Bool) : State :=
  if s.gate = level then s else (s.setGate level).emit (.setReady level)

/-- The gate level of a framer state: 1 exactly in SCANNING, BODY and TAIL (R26). -/
def FState.acquiring : FState → Bool
  | .idle => false
  | .scanning => true
  | .body => true
  | .tail => true
  | .complete => false

/-- The numbering of the framer states, where one is wanted (R22, D3). -/
def FState.code : FState → Nat
  | .idle => 0
  | .scanning => 1
  | .body => 2
  | .tail => 3
  | .complete => 4

/-- The poll interval, in milliseconds, that the host waits after a poll performed in a state (R7, R152, R312); no
operation reads it (log entry 24). -/
def FState.pollInterval (c : Config) : FState → Nat
  | .idle => 0
  | .scanning => c.t1
  | .body => c.t2
  | .tail => c.t3
  | .complete => 0

/-- A write or touch marks whether or not the value changed (R191, R193, R196). -/
def State.publishes (s : State) (force : Bool) : Bool := s.firstRun || s.alwaysPublish || force

/-- `changed`: the value is unset or differs (R191). -/
def State.changed (s : State) (r : AttrRow) (v : List Byte) : Bool := s.rowValue r != some v

/-- `mark(k)` (R198). -/
def State.mark (s : State) (k : Key) : State :=
  if k ∈ s.dirtyOf k.ep then s else s.setDirtyOf k.ep (s.dirtyOf k.ep ++ [k])

end Sys2Proof.Machine
end

