-- ==== Sys2Proof/Machine/Attribute.lean ====
section
/-! DEFINITION. Attribute Store (43_attribute_store.md): ATTR.WR, ATTR.TOUCH, ATTR.RD, DIRTY.CLR. -/

namespace Sys2Proof.Machine

/-- ATTR.WR on a row: mark and update when the value changed or the policy says so (R191). -/
def State.writeRow (s : State) (r : AttrRow) (force : Bool) (v : List Byte) : State :=
  if s.changed r v || s.publishes force then ((s.mark r.key).writeValue r v).returns (.marked true)
  else s.returns (.marked false)

/-- ATTR.WR (R191, R192). -/
def execAttrWr (k : Key) (force : Bool) (v : List Byte) (s : State) : Host.Outcome State Fault Refusal :=
  .next
    (match s.cfg.row k with
    | some r => if s.cfg.valueWf r.tag v then s.writeRow r force v else s.raise .illegalOperation
    | none => s.raise .illegalOperation)

/-- ATTR.TOUCH (R192, R193). -/
def execAttrTouch (k : Key) (force : Bool) (s : State) : Host.Outcome State Fault Refusal :=
  .next
    (match s.cfg.row k with
    | some r =>
      if s.publishes force then (s.mark r.key).returns (.marked true) else s.returns (.marked false)
    | none => s.raise .illegalOperation)

/-- ATTR.RD (R194). -/
def execAttrRd (k : Key) (s : State) : Host.Outcome State Fault Refusal :=
  .next
    (match s.cfg.row k with
    | some r => s.returns (.attr r.tag (s.rowValue r))
    | none => s.returns .absent)

/-- DIRTY.CLR (R192, R195). -/
def execDirtyClr (ep : Byte) (s : State) : Host.Outcome State Fault Refusal :=
  .next (if s.cfg.hasEndpoint ep then (s.setDirtyOf ep []).returns .none else s.raise .illegalOperation)

end Sys2Proof.Machine
end

