-- ==== Sys2Proof/Machine/Report.lean ====
section
/-! DEFINITION. Report Encoder (44_report_encoder.md): REPORT, and CL.REPORT_ATTR as the hand-over of one report frame
(log entry 6). -/

namespace Sys2Proof.Machine

/-- The record of a key whose value is set (R99); none for an unset value (R211) and for a key without a row
(unreachable, log entry 22). -/
def State.record (s : State) (k : Key) : Option AttrRecord :=
  match s.cfg.row k with
  | some r => (s.rowValue r).map (fun v => ⟨k.id, r.tag, v⟩)
  | none => none

/-- `reportable(ep)`: the dirty keys whose value is set, in order (R211). -/
def State.reportable (s : State) (ep : Byte) : List Key := (s.dirtyOf ep).filter (fun k => (s.record k).isSome)

/-- The distinct entries of a list in the order of their first occurrence (R212). -/
def firstSeen {α : Type} [DecidableEq α] : List α → List α
  | [] => []
  | c :: cs => c :: (firstSeen cs).filter (fun d => d ≠ c)

/-- `groups(L)` (R212). -/
def groups (l : List Key) : List (Half × List Key) :=
  (firstSeen (l.map Key.cluster)).map (fun c => (c, l.filter (fun k => k.cluster == c)))

/-- The transmit envelope of a report frame (R11, R213). -/
def State.reportTx (s : State) (ep : Byte) (cluster : Half) (records : List AttrRecord) : TxEnvelope where
  route := ⟨s.cfg.reportDest, ep, s.cfg.reportDstEp⟩
  cluster := cluster
  profile := s.cfg.profileId
  frame := reportFrame s.cfg.wire s.seq records

/-- The loop of REPORT: one frame for each group, in order; the state after it and the results (R213 to R215). -/
def sendGroups (ep : Byte) : List (Half × List Key) → State → State × List (List Byte × Half × Bool)
  | [], s => (s, [])
  | (cluster, members) :: gs, s =>
    let tx := s.reportTx ep cluster (members.filterMap s.record)
    let rest := sendGroups ep gs (s.sendReport tx)
    (rest.1, (tx.frame, cluster, s.txAnswer) :: rest.2)

/-- REPORT of a known endpoint (R213). -/
def State.reportAll (s : State) (ep : Byte) : State :=
  let sent := sendGroups ep (groups (s.reportable ep)) s
  sent.1.returns (.reports sent.2)

/-- REPORT (R192, R213). -/
def execReport (ep : Byte) (s : State) : Host.Outcome State Fault Refusal :=
  .next (if s.cfg.hasEndpoint ep then s.reportAll ep else s.raise .illegalOperation)

/-- CL.REPORT_ATTR: this report frame is handed to the transport, and SEQ advances iff it is accepted (R213, R214,
R217; log entry 6). -/
def execClReportAttr (r : Route) (cluster profile : Half) (seq : Byte) (records : List AttrRecord) (s : State) :
    Host.Outcome State Fault Refusal :=
  .next
    ((s.sendReport ⟨r, cluster, profile, reportFrame s.cfg.wire seq records⟩).returns
      (.reports [(reportFrame s.cfg.wire seq records, cluster, s.txAnswer)]))

end Sys2Proof.Machine
end

