-- ==== Sys2Proof/Machine/ClDecoder.lean ====
section
/-! DEFINITION. Command Protocol Engine, cluster-library namespace (45_command_decoder.md): the arms of FRAME.RX for CL frames
(each also the meaning of its own row, log entry 7) and CL.READ_ATTR_RSP as the hand-over of that frame (log entry 6). -/

namespace Sys2Proof.Machine

/-- `res(id)` for the addressed endpoint and cluster: an unset value is answered like an absent key (R235). -/
def State.attrResult (s : State) (ep : Byte) (cluster id : Half) : AttrResult :=
  match s.cfg.row ⟨ep, cluster, id⟩ with
  | some r =>
    match s.rowValue r with
    | some v => .found id r.tag v
    | none => .unsupported id
  | none => .unsupported id

/-- The results of a read request: one for each id, in order (R233, R234). -/
def State.attrResults (s : State) (ep : Byte) (cluster : Half) (args : List Byte) : List AttrResult :=
  (idsOf args).map (s.attrResult ep cluster)

/-- Arm CL.READ_ATTR (R233 to R237). -/
def State.readAttr (s : State) (r : Route) (cluster profile : Half) (seq : Byte) (args : List Byte) : State :=
  s.respond ⟨r.reply, cluster, profile, readAttrRspFrame s.cfg.wire seq (s.attrResults r.dstEp cluster args)⟩

/-- Arm CL.DEFAULT_RSP: AwaitingFirstAck to Steady, no reply (R238). -/
def State.defaultRsp (s : State) : State := (s.setFirstRun false).returns (.frames [])

/-- `cl_dispatch(env)` (R231, R232, R239; a frame too short for its header, whatever HDR_LEN is, log entry 26). -/
def State.clDispatch (s : State) (e : Envelope) : State :=
  match e.payload with
  | _ :: seq :: cmd :: args =>
    if s.cfg.wire.shortCl e.payload then s.dropFrame .shortFrame
    else if cmd = s.cfg.wire.cmdReadAttr then s.readAttr e.route e.cluster e.profile seq args
    else if cmd = s.cfg.wire.cmdDefaultRsp then s.defaultRsp
    else s.dropFrame (.unknownClCommand cmd)
  | _ => s.dropFrame .shortFrame

/-- CL.READ_ATTR; `kind` is not examined (R118, R233). -/
def execClReadAttr (r : Route) (cluster profile : Half) (_kind seq : Byte) (args : List Byte) (s : State) :
    Host.Outcome State Fault Refusal :=
  .next (s.readAttr r cluster profile seq args)

/-- CL.READ_ATTR_RSP: this response is handed to the transport (R101, R236, R237; log entry 6). -/
def execClReadAttrRsp (r : Route) (cluster profile : Half) (seq : Byte) (results : List AttrResult) (s : State) :
    Host.Outcome State Fault Refusal :=
  .next (s.respond ⟨r, cluster, profile, readAttrRspFrame s.cfg.wire seq results⟩)

/-- CL.DEFAULT_RSP; nothing of the frame but its command is read (R102, R238). -/
def execClDefaultRsp (_r : Route) (_cluster _profile : Half) (_kind _seq : Byte) (_args : List Byte) (s : State) :
    Host.Outcome State Fault Refusal :=
  .next s.defaultRsp

/-- CL.OTHER: logged and dropped (R239). -/
def execClOther (_r : Route) (_cluster _profile : Half) (_kind _seq cmd : Byte) (_args : List Byte) (s : State) :
    Host.Outcome State Fault Refusal :=
  .next (s.dropFrame (.unknownClCommand cmd))

/-- CL.SHORT: rejected without reply (R232). -/
def execClShort (_r : Route) (_cluster _profile : Half) (_payload : List Byte) (s : State) :
    Host.Outcome State Fault Refusal :=
  .next (s.dropFrame .shortFrame)

end Sys2Proof.Machine
end

