-- ==== Sys2Proof/Machine/Framer.lean ====
section
/-! DEFINITION. The framer (41_framer.md): ACQ.START, ACQ.POLL, ACQ.REL, ACQ.RD, and TELEGRAM as the poll that delivers
exactly that telegram (log entry 8). -/

namespace Sys2Proof.Machine

/-- The framer's registers as in IDLE (R22 to R25); the gate and ERR are not touched (R159, R182). -/
def State.toIdle (s : State) : State := s.setFramer .idle 0 [] none

/-- The state changes and the outcome of `timeout()` (R158), and with BufferOverflow those of R160. -/
def State.failAcquisition (s : State) (e : Status) : State := (s.toIdle.driveGate false).raise e

/-- `complete()`, with the end marker at `j` (R157). -/
def State.complete (s : State) (j : Nat) : State :=
  (s.setFramer .complete 0 (s.tbuf.take (j + 1 + s.cfg.csumDigits)) s.bang).driveGate false

/-- The part of `advance()` for BODY (R156). -/
def State.advanceBody (s : State) : State :=
  match s.fstate with
  | .body =>
    match findByte s.cfg.endMark s.tbuf with
    | some j => s.setFramer .tail 0 s.tbuf (some j)
    | none => s
  | _ => s

/-- The part of `advance()` for TAIL (R156). BANG is never `none` there (R25; log entry 22). -/
def State.advanceTail (s : State) : State :=
  match s.fstate, s.bang with
  | .tail, some j => if j + 1 + s.cfg.csumDigits ≤ s.tbuf.length then s.complete j else s
  | _, _ => s

/-- `advance()`: every state change whose condition already holds (R156). -/
def State.advance (s : State) : State := s.advanceBody.advanceTail

/-- The end of a poll: the budget test after `advance` in the state the poll was performed in (R153 to R155, R279). -/
def State.endPoll (s : State) (polledIn : FState) (budget : Nat) : State :=
  if s.fstate = polledIn ∧ s.polls = budget then s.failAcquisition .acquisitionTimeout
  else s.returns (.framer s.fstate)

/-- ACQ.POLL in SCANNING (R153, R160). -/
def State.pollScanning (s : State) (c : List Byte) : State :=
  match findByte s.cfg.startMark c with
  | some i =>
    if s.cfg.fits (c.drop i).length then
      let t := (s.setFramer .body 0 (c.drop i) s.bang).advance
      t.returns (.framer t.fstate)
    else s.failAcquisition .bufferOverflow
  | none => (s.setFramer .scanning (s.polls + 1) s.tbuf s.bang).endPoll .scanning s.cfg.n1

/-- ACQ.POLL in BODY (R154, R160). -/
def State.pollBody (s : State) (c : List Byte) : State :=
  if s.cfg.fits (s.tbuf ++ c).length then
    (s.setFramer .body (s.polls + 1) (s.tbuf ++ c) s.bang).advance.endPoll .body s.cfg.n2
  else s.failAcquisition .bufferOverflow

/-- ACQ.POLL in TAIL (R155, R160). -/
def State.pollTail (s : State) (c : List Byte) : State :=
  if s.cfg.fits (s.tbuf ++ c).length then
    (s.setFramer .tail (s.polls + 1) (s.tbuf ++ c) s.bang).advance.endPoll .tail s.cfg.n3
  else s.failAcquisition .bufferOverflow

/-- One poll that answered the chunk `c` (R152). -/
def State.poll (s : State) (c : List Byte) : State :=
  match s.fstate with
  | .idle => s.raise .illegalOperation
  | .scanning => s.pollScanning c
  | .body => s.pollBody c
  | .tail => s.pollTail c
  | .complete => s.raise .illegalOperation

/-- ACQ.START (R151). -/
def execAcqStart (s : State) : Host.Outcome State Fault Refusal :=
  .next ((((s.setFramer .scanning 0 [] none).setErr 0).driveGate true).returns .none)

/-- ACQ.POLL (R152). -/
def execAcqPoll (c : List Byte) (s : State) : Host.Outcome State Fault Refusal := .next (s.poll c)

/-- ACQ.REL (R159). -/
def execAcqRel (s : State) : Host.Outcome State Fault Refusal :=
  .next (if s.fstate = .complete ∨ s.fstate = .idle then s.toIdle.returns .none else s.raise .illegalOperation)

/-- ACQ.RD (R167). -/
def execAcqRd (s : State) : Host.Outcome State Fault Refusal :=
  .next (if s.fstate = .complete then s.returns (.bytes s.tbuf) else s.raise .illegalOperation)

/-- TELEGRAM: the table calls the row a data format (R93). A telegram reaches the block as bytes a poll returns (R6,
R152), so the row's meaning is the poll whose chunk is exactly that telegram (DESIGN CHOICE, safe; log entry 8). -/
def execTelegram (body digits : List Byte) (s : State) : Host.Outcome State Fault Refusal :=
  .next (s.poll (telegramBytes s.cfg body digits))

end Sys2Proof.Machine
end

