-- ==== Sys2Proof/Machine/MgDecoder.lean ====
section
/-! DEFINITION. Command Protocol Engine, management namespace (46_management.md): the arms of FRAME.RX for MG frames (each also
the meaning of its own row, log entry 7) and the four responses as the hand-over of such a frame (log entry 6). -/

namespace Sys2Proof.Machine

/-- The length byte of a descriptor (R253): the length where one byte holds it, else a free value (log entry 14). -/
def State.descLenByte (s : State) (e : EpDesc) : Byte :=
  if e.bytes.length < 256 then countByte e.bytes.length else Config.freeByte s.freeIdx

/-- Hands an MG response over to the transport, with the given route and cluster (R261). -/
def State.mgRespond (s : State) (r : Route) (cluster : Half) (frame : List Byte) : State :=
  s.respond (mgResponse s.cfg.wire r cluster frame)

/-- Answers an MG request: to its sender, endpoints exchanged, to the request's cluster with bit 15 set (R261). -/
def State.mgAnswer (s : State) (r : Route) (request : Half) (frame : List Byte) : State :=
  s.mgRespond r.reply (rspCluster request) frame

/-- Descriptor query (R252, R253, R261). -/
def State.simpleDesc (s : State) (r : Route) (tseq : Byte) (addr : Half) (ep : Byte) : State :=
  match s.cfg.epDesc ep with
  | some e =>
    s.mgAnswer r s.cfg.wire.mgSimpleDescReq (simpleDescRspFrame s.cfg.wire tseq addr (s.descLenByte e) e)
  | none => s.dropFrame .unknownEndpoint

/-- Active-endpoint query: all rows of EP_TABLE in table order (R254, R255). -/
def State.activeEp (s : State) (r : Route) (tseq : Byte) (addr : Half) : State :=
  s.mgAnswer r s.cfg.wire.mgActiveEpReq
    (activeEpRspFrame s.cfg.wire tseq addr (s.cfg.epTable.map EpDesc.endpoint))

/-- Bind and unbind: acknowledged unconditionally (R256, R257). -/
def State.acknowledge (s : State) (r : Route) (request : Half) (tseq : Byte) : State :=
  s.mgAnswer r request (ackFrame s.cfg.wire tseq)

/-- Address response: PEER is written, the status is not tested, no reply (R258). -/
def State.learnPeer (s : State) (long : BitVec 64) (short : Half) : State :=
  (s.setPeer (some ⟨long, short⟩)).returns (.frames [])

/-- The address-response arm on a body (R251, R258). -/
def State.addrRsp (s : State) : List Byte → State
  | _ :: l0 :: l1 :: l2 :: l3 :: l4 :: l5 :: l6 :: l7 :: s0 :: s1 :: _ =>
    s.learnPeer (BitVec.ofNat 64 (fromLe [l0, l1, l2, l3, l4, l5, l6, l7])) (word16 s0 s1)
  | _ => s.dropFrame .shortFrame

/-- `mg_dispatch(env)` (R250, R279). -/
def State.mgDispatch (s : State) (e : Envelope) : State :=
  match e.payload with
  | [] => s.dropFrame .shortFrame
  | tseq :: body =>
    if e.cluster = s.cfg.wire.mgSimpleDescReq then
      match body with
      | a0 :: a1 :: ep :: _ => s.simpleDesc e.route tseq (word16 a0 a1) ep
      | _ => s.dropFrame .shortFrame
    else if e.cluster = s.cfg.wire.mgActiveEpReq then
      match body with
      | a0 :: a1 :: _ => s.activeEp e.route tseq (word16 a0 a1)
      | _ => s.dropFrame .shortFrame
    else if e.cluster = s.cfg.wire.mgBindReq then s.acknowledge e.route s.cfg.wire.mgBindReq tseq
    else if e.cluster = s.cfg.wire.mgUnbindReq then s.acknowledge e.route s.cfg.wire.mgUnbindReq tseq
    else if e.cluster = s.cfg.wire.mgNwkAddrRsp then s.addrRsp body
    else if e.cluster = s.cfg.wire.mgIeeeAddrRsp then s.addrRsp body
    else if e.cluster = s.cfg.wire.mgNodeDescRsp then s.returns (.frames [])
    else s.dropFrame (.unknownMgCommand e.cluster)

/-- MG.SIMPLE_DESC_REQ (R252). -/
def execMgSimpleDescReq (r : Route) (tseq : Byte) (addr : Half) (endpoint : Byte) (_rest : List Byte) (s : State) :
    Host.Outcome State Fault Refusal :=
  .next (s.simpleDesc r tseq addr endpoint)

/-- MG.SIMPLE_DESC_RSP: this response is handed to the transport, to the row's cluster (R9, R253, R261; log entries 6, 17). -/
def execMgSimpleDescRsp (r : Route) (tseq : Byte) (addr : Half) (len : Byte) (desc : EpDesc) (s : State) :
    Host.Outcome State Fault Refusal :=
  .next (s.mgRespond r s.cfg.wire.mgSimpleDescRsp (simpleDescRspFrame s.cfg.wire tseq addr len desc))

/-- MG.ACTIVE_EP_REQ (R254). -/
def execMgActiveEpReq (r : Route) (tseq : Byte) (addr : Half) (_rest : List Byte) (s : State) :
    Host.Outcome State Fault Refusal :=
  .next (s.activeEp r tseq addr)

/-- MG.ACTIVE_EP_RSP: this response is handed to the transport, to the row's cluster (R9, R255, R261; log entries 6, 17). -/
def execMgActiveEpRsp (r : Route) (tseq : Byte) (addr : Half) (endpoints : List Byte) (s : State) :
    Host.Outcome State Fault Refusal :=
  .next (s.mgRespond r s.cfg.wire.mgActiveEpRsp (activeEpRspFrame s.cfg.wire tseq addr endpoints))

/-- MG.BIND_REQ; the body is not read (R256). -/
def execMgBindReq (r : Route) (tseq : Byte) (_body : List Byte) (s : State) : Host.Outcome State Fault Refusal :=
  .next (s.acknowledge r s.cfg.wire.mgBindReq tseq)

/-- MG.BIND_RSP: this response is handed to the transport, to the row's cluster (R9, R256, R261; log entries 6, 17). -/
def execMgBindRsp (r : Route) (tseq : Byte) (s : State) : Host.Outcome State Fault Refusal :=
  .next (s.mgRespond r s.cfg.wire.mgBindRsp (ackFrame s.cfg.wire tseq))

/-- MG.UNBIND_REQ; the body is not read (R257). -/
def execMgUnbindReq (r : Route) (tseq : Byte) (_body : List Byte) (s : State) : Host.Outcome State Fault Refusal :=
  .next (s.acknowledge r s.cfg.wire.mgUnbindReq tseq)

/-- MG.UNBIND_RSP: this response is handed to the transport, to the row's cluster (R9, R257, R261; log entries 6, 17). -/
def execMgUnbindRsp (r : Route) (tseq : Byte) (s : State) : Host.Outcome State Fault Refusal :=
  .next (s.mgRespond r s.cfg.wire.mgUnbindRsp (ackFrame s.cfg.wire tseq))

/-- MG.NWK_ADDR_RSP; the status is not tested and later bytes are ignored (R258). -/
def execMgNwkAddrRsp (_r : Route) (_tseq _status : Byte) (long : BitVec 64) (short : Half) (_rest : List Byte)
    (s : State) : Host.Outcome State Fault Refusal :=
  .next (s.learnPeer long short)

/-- MG.IEEE_ADDR_RSP; the status is not tested and later bytes are ignored (R258). -/
def execMgIeeeAddrRsp (_r : Route) (_tseq _status : Byte) (long : BitVec 64) (short : Half) (_rest : List Byte)
    (s : State) : Host.Outcome State Fault Refusal :=
  .next (s.learnPeer long short)

/-- MG.NODE_DESC_RSP: ignored, status OK (R259). -/
def execMgNodeDescRsp (_r : Route) (_tseq : Byte) (_body : List Byte) (s : State) : Host.Outcome State Fault Refusal :=
  .next (s.returns (.frames []))

/-- MG.OTHER: logged and dropped (R260). -/
def execMgOther (_r : Route) (cluster : Half) (_tseq : Byte) (_body : List Byte) (s : State) :
    Host.Outcome State Fault Refusal :=
  .next (s.dropFrame (.unknownMgCommand cluster))

/-- MG.SHORT: rejected without reply (R251). -/
def execMgShort (_r : Route) (_cluster : Half) (_payload : List Byte) (s : State) : Host.Outcome State Fault Refusal :=
  .next (s.dropFrame .shortFrame)

end Sys2Proof.Machine
end

