-- ==== Sys2Proof/Machine/System.lean ====
section
/-! DEFINITION. FRAME.RX (45_command_decoder.md R230), the system operations RESET and CFG.POLICY (47_system.md), and the
reserved host codes (30_encoding.md R112). -/

namespace Sys2Proof.Machine

/-- FRAME.RX: the namespace is MG iff the profile is MG_PROFILE (R109, R230). -/
def execFrameRx (env : Envelope) (s : State) : Host.Outcome State Fault Refusal :=
  .next (if env.profile = s.cfg.wire.mgProfile then s.mgDispatch env else s.clDispatch env)

/-- Every state element takes its reset value (R42, R265). The configuration stays (R303), and so do the model's own
fields: the inputs still to come, the oracle and what the outside has seen (log entry 12). -/
def State.resetElements (s : State) : State :=
  ((((((((s.setCrc 0x0000).toIdle).driveGate false).setErr 0).setSeq 0x00).setFirstRun true).setAlwaysPublish
    false).setStore []).setDirty [] |>.setPeer none

/-- RESET (R265, R302). -/
def execReset (s : State) : Host.Outcome State Fault Refusal := .next (s.resetElements.returns .none)

/-- CFG.POLICY (R267). -/
def execCfgPolicy (p : Bool) (s : State) : Host.Outcome State Fault Refusal :=
  .next ((s.setAlwaysPublish p).returns .none)

/-- A reserved host code changes no state except ERR (R112, R271). -/
def State.reservedCode (s : State) : State := s.raise .illegalOperation

/-- RESERVED_04_0F (R112). -/
def execReserved04To0F (_code : Byte) (_operands : List Byte) (s : State) : Host.Outcome State Fault Refusal :=
  .next s.reservedCode

/-- RESERVED_14_1F (R112). -/
def execReserved14To1F (_code : Byte) (_operands : List Byte) (s : State) : Host.Outcome State Fault Refusal :=
  .next s.reservedCode

/-- RESERVED_21_2F (R112). -/
def execReserved21To2F (_code : Byte) (_operands : List Byte) (s : State) : Host.Outcome State Fault Refusal :=
  .next s.reservedCode

/-- RESERVED_34_3F (R112). -/
def execReserved34To3F (_code : Byte) (_operands : List Byte) (s : State) : Host.Outcome State Fault Refusal :=
  .next s.reservedCode

/-- RESERVED_41_4F (R112). -/
def execReserved41To4F (_code : Byte) (_operands : List Byte) (s : State) : Host.Outcome State Fault Refusal :=
  .next s.reservedCode

/-- RESERVED_51_EF (R112). -/
def execReserved51ToEF (_code : Byte) (_operands : List Byte) (s : State) : Host.Outcome State Fault Refusal :=
  .next s.reservedCode

/-- RESERVED_F2_FF (R112). -/
def execReservedF2ToFF (_code : Byte) (_operands : List Byte) (s : State) : Host.Outcome State Fault Refusal :=
  .next s.reservedCode

end Sys2Proof.Machine
end

