-- ==== Sys2Proof/Machine/Validate.lean ====
section
/-! DEFINITION. Telegram validation (42_validate.md): the predicate `valid` and TVERIFY. -/

namespace Sys2Proof.Machine

/-- `valid(T)`: the checksum field is the checksum of every byte before it (R180, R181). -/
def valid (t : List Byte) : Bool :=
  match csumField t with
  | some v => v == crc16 (t.take (t.length - 4))
  | none => false

/-- TVERIFY (R182). -/
def execTverify (s : State) : Host.Outcome State Fault Refusal :=
  .next
    (if s.fstate = .complete then
      if valid s.tbuf then s.returns .none else s.toIdle.raise .checksumMismatch
    else s.raise .illegalOperation)

end Sys2Proof.Machine
end

