-- ==== Sys2Proof/Machine/Dispatch.lean ====
section
/-! DEFINITION. One arm for each instruction. -/

namespace Sys2Proof.Machine

def exec (i : Instr) (s : State) : Host.Outcome State Fault Refusal :=
  match i with
  | .crcClr => Sys2Proof.Machine.execCrcClr s
  | .crcUpd b => Sys2Proof.Machine.execCrcUpd b s
  | .crcRd => Sys2Proof.Machine.execCrcRd s
  | .csum p => Sys2Proof.Machine.execCsum p s
  | .acqStart => Sys2Proof.Machine.execAcqStart s
  | .acqPoll c => Sys2Proof.Machine.execAcqPoll c s
  | .acqRel => Sys2Proof.Machine.execAcqRel s
  | .acqRd => Sys2Proof.Machine.execAcqRd s
  | .tverify => Sys2Proof.Machine.execTverify s
  | .attrWr k force v => Sys2Proof.Machine.execAttrWr k force v s
  | .attrTouch k force => Sys2Proof.Machine.execAttrTouch k force s
  | .attrRd k => Sys2Proof.Machine.execAttrRd k s
  | .dirtyClr ep => Sys2Proof.Machine.execDirtyClr ep s
  | .report ep => Sys2Proof.Machine.execReport ep s
  | .frameRx env => Sys2Proof.Machine.execFrameRx env s
  | .reset => Sys2Proof.Machine.execReset s
  | .cfgPolicy p => Sys2Proof.Machine.execCfgPolicy p s
  | .reserved04To0F code operands => Sys2Proof.Machine.execReserved04To0F code operands s
  | .reserved14To1F code operands => Sys2Proof.Machine.execReserved14To1F code operands s
  | .reserved21To2F code operands => Sys2Proof.Machine.execReserved21To2F code operands s
  | .reserved34To3F code operands => Sys2Proof.Machine.execReserved34To3F code operands s
  | .reserved41To4F code operands => Sys2Proof.Machine.execReserved41To4F code operands s
  | .reserved51ToEF code operands => Sys2Proof.Machine.execReserved51ToEF code operands s
  | .reservedF2ToFF code operands => Sys2Proof.Machine.execReservedF2ToFF code operands s
  | .clReadAttr r cluster profile kind seq args => Sys2Proof.Machine.execClReadAttr r cluster profile kind seq args s
  | .clReadAttrRsp r cluster profile seq results => Sys2Proof.Machine.execClReadAttrRsp r cluster profile seq results s
  | .clReportAttr r cluster profile seq records => Sys2Proof.Machine.execClReportAttr r cluster profile seq records s
  | .clDefaultRsp r cluster profile kind seq args => Sys2Proof.Machine.execClDefaultRsp r cluster profile kind seq args s
  | .clOther r cluster profile kind seq cmd args => Sys2Proof.Machine.execClOther r cluster profile kind seq cmd args s
  | .clShort r cluster profile payload => Sys2Proof.Machine.execClShort r cluster profile payload s
  | .mgSimpleDescReq r tseq addr endpoint rest => Sys2Proof.Machine.execMgSimpleDescReq r tseq addr endpoint rest s
  | .mgSimpleDescRsp r tseq addr len desc => Sys2Proof.Machine.execMgSimpleDescRsp r tseq addr len desc s
  | .mgActiveEpReq r tseq addr rest => Sys2Proof.Machine.execMgActiveEpReq r tseq addr rest s
  | .mgActiveEpRsp r tseq addr endpoints => Sys2Proof.Machine.execMgActiveEpRsp r tseq addr endpoints s
  | .mgBindReq r tseq body => Sys2Proof.Machine.execMgBindReq r tseq body s
  | .mgBindRsp r tseq => Sys2Proof.Machine.execMgBindRsp r tseq s
  | .mgUnbindReq r tseq body => Sys2Proof.Machine.execMgUnbindReq r tseq body s
  | .mgUnbindRsp r tseq => Sys2Proof.Machine.execMgUnbindRsp r tseq s
  | .mgNwkAddrRsp r tseq status long short rest => Sys2Proof.Machine.execMgNwkAddrRsp r tseq status long short rest s
  | .mgIeeeAddrRsp r tseq status long short rest => Sys2Proof.Machine.execMgIeeeAddrRsp r tseq status long short rest s
  | .mgNodeDescRsp r tseq body => Sys2Proof.Machine.execMgNodeDescRsp r tseq body s
  | .mgOther r cluster tseq body => Sys2Proof.Machine.execMgOther r cluster tseq body s
  | .mgShort r cluster payload => Sys2Proof.Machine.execMgShort r cluster payload s
  | .telegram body digits => Sys2Proof.Machine.execTelegram body digits s

end Sys2Proof.Machine
end

