-- ==== Sys2Proof/Machine/Step.lean ====
section
/-! DEFINITION. One step: the next input is taken from the queue, decoded and performed (20_memory.md R70; log entry 2). -/

namespace Sys2Proof.Machine

/-- One step. With no input the block does nothing (R300). A configuration outside R303 is refused (U7), and so are
bytes that stand for no instruction (log entry 15). -/
def step (s : State) : Host.Outcome State Fault Refusal :=
  if s.cfg.WellFormed then
    match s.pending with
    | [] => .next s
    | p :: rest =>
      match decode s.cfg p with
      | .ok i => exec i (s.setPending rest)
      | .error e => .refused (.undecodable e)
  else .refused .illFormedConfig

/-- The state whose next input is the numbered word of a HOST row (log entry 2). -/
def State.withFetchWord (s : State) (nbits w : Nat) : State :=
  s.setPending (.host (commandOfWord nbits w) :: s.pending)

end Sys2Proof.Machine
end

