-- ==== Sys2Proof/Machine/Pseudo.lean ====
section
/-! DEFINITION. Sequences of operations: the pseudo-operations CHECKSUM, ACQ and CYCLE (30_encoding.md R117), and the write of a
number that the parser issues (R104). They are the host's programs, not instructions of the block. -/

namespace Sys2Proof.Machine

/-- The operations one after the other, up to the first that does not answer a next state. -/
def runOps : List Instr → State → Host.Outcome State Fault Refusal
  | [], s => .next s
  | i :: is, s =>
    match exec i s with
    | .next t => runOps is t
    | .fault r => .fault r
    | .refused r => .refused r

/-- The stepwise expansion of CHECKSUM (R117). -/
def checksumOps (p : List Byte) : List Instr := .crcClr :: (p.map .crcUpd ++ [.crcRd])

/-- ACQ.POLL for each chunk in turn while an acquisition is in progress (R117). -/
def pollWhile : List (List Byte) → State → Host.Outcome State Fault Refusal
  | [], s => .next s
  | c :: cs, s =>
    if s.fstate.acquiring then
      match exec (.acqPoll c) s with
      | .next t => pollWhile cs t
      | .fault r => .fault r
      | .refused r => .refused r
    else .next s

/-- ACQ: ACQ.START, then polls that answer the given chunks (R117). -/
def acquire (chunks : List (List Byte)) (s : State) : Host.Outcome State Fault Refusal :=
  match exec .acqStart s with
  | .next t => pollWhile chunks t
  | .fault r => .fault r
  | .refused r => .refused r

/-- The milliseconds the host waits in an acquisition whose polls answer the given chunks (R312). -/
def waited : List (List Byte) → State → Nat
  | [], _ => 0
  | c :: cs, s =>
    if s.fstate.acquiring then
      match exec (.acqPoll c) s with
      | .next t => s.fstate.pollInterval s.cfg + waited cs t
      | .fault _ => 0
      | .refused _ => 0
    else 0

/-- The ATTR.WR by which the parser hands over the integer `x` for a key: the operand is the integer in the byte format
of the key's tag (R104, R191). `none` for an unknown key, a tag that is not numeric, or an integer that does not fit (U6). -/
def numericWrite (c : Config) (k : Key) (force : Bool) (x : Nat) : Option Instr :=
  match c.row k with
  | some r => (c.numericValue r.tag x).map (.attrWr k force)
  | none => none

/-- The endpoints a cycle goes through: each endpoint of ATTR_TABLE (R35, R305), once. The order of the table's rows is not
significant (R33). R117 writes 1, 2 for the source's two endpoints; R305 says "in a fixed order" for any table: the order of
the endpoint numbers, rising, which is R117's (DESIGN CHOICE for other endpoints, unsafe; log entry 30). -/
def endpoints (c : Config) : List Byte := ((List.range 256).map (BitVec.ofNat 8)).filter c.hasEndpoint

/-- The part of CYCLE that follows a telegram that verified (R117, R305); `parser` is what the excluded parser issues. -/
def parsePass (c : Config) (parser : List Instr) : List Instr :=
  (endpoints c).map .dirtyClr ++ [.acqRd] ++ parser ++ [.acqRel] ++ (endpoints c).map .report

/-- CYCLE (R117, R305): the rest is skipped when the acquisition or the verification fails. -/
def cycle (chunks : List (List Byte)) (parser : List Instr) (s : State) : Host.Outcome State Fault Refusal :=
  match acquire chunks s with
  | .next t =>
    if t.fstate = .complete then
      match exec .tverify t with
      | .next u => if u.ret.status = .ok then runOps (parsePass s.cfg parser) u else .next u
      | .fault r => .fault r
      | .refused r => .refused r
    else .next t
  | .fault r => .fault r
  | .refused r => .refused r

/-- The number, from 1, of the chunk that holds byte `n` of the stream (R162). -/
def chunkOf : Nat → List (List Byte) → Nat
  | _, [] => 1
  | n, c :: cs => if n < c.length then 1 else chunkOf (n - c.length) cs + 1

end Sys2Proof.Machine
end

