-- ==== Sys2Proof/Safety.lean ====
section
/-! DEFINITION. What holds of every state of a run: the framer's registers agree (10_state.md R22 to R26), the error register
holds a code that is recorded (R27, R270), the keyed spaces have their canonical form and well-formed content (R34,
R35), and the configuration is one of R303. -/

namespace Sys2Proof.Machine

/-- The buffer starts with the start marker and is within its capacity (R24). -/
abbrev State.Framed (s : State) : Prop := s.tbuf.head? = some s.cfg.startMark ∧ s.cfg.fits s.tbuf.length = true

/-- BANG is the first end marker of the buffer, and there is one (R25). -/
abbrev State.BangFound (s : State) : Prop := s.bang = findByte s.cfg.endMark s.tbuf ∧ s.bang.isSome = true

/-- How many bytes the buffer has when it holds a whole telegram (R24). -/
def State.telegramLength (s : State) : Nat := s.bang.getD 0 + 1 + s.cfg.csumDigits

/-- What each framer state says of POLLS, TBUF and BANG (R22 to R25). -/
abbrev State.FramerOk (s : State) : Prop :=
  (s.fstate = .idle → s.polls = 0 ∧ s.tbuf = [] ∧ s.bang = none) ∧
  (s.fstate = .scanning → s.polls < s.cfg.n1 ∧ s.tbuf = [] ∧ s.bang = none) ∧
  (s.fstate = .body → s.polls < s.cfg.n2 ∧ s.Framed ∧ s.bang = none ∧ findByte s.cfg.endMark s.tbuf = none) ∧
  (s.fstate = .tail → s.polls < s.cfg.n3 ∧ s.Framed ∧ s.BangFound ∧ s.tbuf.length < s.telegramLength) ∧
  (s.fstate = .complete → s.polls = 0 ∧ s.Framed ∧ s.BangFound ∧ s.tbuf.length = s.telegramLength)

/-- The gate is 1 exactly in SCANNING, BODY and TAIL (R26). -/
abbrev State.GateOk (s : State) : Prop := s.gate = s.fstate.acquiring

/-- ERR never holds UnsupportedAttribute or TransmitFailure (R270, R275, R278). -/
abbrev State.ErrOk (s : State) : Prop :=
  s.err ≠ Status.code .unsupportedAttribute ∧ s.err ≠ Status.code .transmitFailure

/-- The invariant of the machine. -/
abbrev State.Inv (s : State) : Prop :=
  s.cfg.WellFormed ∧ s.FramerOk ∧ s.GateOk ∧ s.ErrOk ∧ Memory.wf s.cfg s.store ∧ DirtySets.wf s.cfg s.dirty

/-! ### Ends of operations, as the rules' lists of state changes -/

/-- IllegalOperation: ERR and nothing else (R271). -/
def State.illegal (s : State) : State := { s with err := 6, ret := ⟨.illegalOperation, .none⟩ }

/-- MalformedRequest: ERR and nothing else, one log event, no frame (R277). -/
def State.malformed (s : State) (e : LogEvent) : State :=
  { s with err := 4, trace := s.trace ++ [.log e], ret := ⟨.malformedRequest, .none⟩ }

/-- The calls of `set_ready` that bring the gate down (R266). -/
def State.traceGateDown (s : State) : List OutEvent := if s.gate then s.trace ++ [.setReady false] else s.trace

/-- An acquisition that failed: nothing is left of it (R158, R272, R273). -/
def State.failed (s : State) (e : Status) : State :=
  { s with
    fstate := .idle, polls := 0, tbuf := [], bang := none, gate := false, err := e.code
    trace := s.traceGateDown, ret := ⟨e, .none⟩ }

/-- An acquisition that goes on in state `f`, with the buffer `b` and the end marker at `j` (R153 to R156). -/
def State.acquiring (s : State) (f : FState) (n : Nat) (b : List Byte) (j : Option Nat) : State :=
  { s with fstate := f, polls := n, tbuf := b, bang := j, ret := ⟨.ok, .framer f⟩ }

/-- An acquisition that succeeded: `b` trimmed to the telegram whose end marker is at `j` (R157). -/
def State.completed (s : State) (b : List Byte) (j : Nat) : State :=
  { s with
    fstate := .complete, polls := 0, tbuf := b.take (j + 1 + s.cfg.csumDigits), bang := some j, gate := false
    trace := s.traceGateDown, ret := ⟨.ok, .framer .complete⟩ }

/-- One response was handed to the transport, with whatever answer (R236, R237, R261). -/
def State.responded (s : State) (tx : TxEnvelope) : State :=
  { s with
    txAnswers := s.txAnswers.tail, freeIdx := s.freeIdx + 1
    trace := s.trace ++ [.transmit tx s.txAnswer], ret := ⟨.ok, .frames [(tx.frame, s.txAnswer)]⟩ }

/-! ### The gate's calls -/

/-- The level the calls of `set_ready` leave, from a level on; `none` if one repeats the level it finds (R266). -/
def gateReplay : Bool → List OutEvent → Option Bool
  | level, [] => some level
  | level, .setReady b :: es => if b = level then none else gateReplay b es
  | level, .transmit _ _ :: es => gateReplay level es
  | level, .log _ :: es => gateReplay level es

/-! ### A parse pass (R197) -/

/-- An operation that the excluded parser issues without `force` (R197). -/
def unforcedWrite : Instr → Bool
  | .attrWr _ force _ => !force
  | .attrTouch _ force => !force
  | _ => false

/-- The value a parser operation writes to a key, if it writes one. -/
def writtenTo (k : Key) : Instr → Option (List Byte)
  | .attrWr k' _ v => if k' = k then some v else none
  | _ => none

/-- No key gets two different values (log entry 23). -/
abbrev OneValueEach (w : List Instr) : Prop :=
  ∀ k, ∀ i ∈ w, ∀ j ∈ w, ∀ u v, writtenTo k i = some u → writtenTo k j = some v → u = v

end Sys2Proof.Machine
end

