-- ==== Sys2Proof/Certificates/Slice0/Obligations.lean ====
section
/-! DEFINITION. The statements for the provers. Where a docstring names a decision D<n> (92_eei_decisions.md) or a log entry,
the statement rests on a choice of the spec or of the model, not on the source. -/

open Sys2Proof Sys2Proof.Machine

/-! ### Encoding -/

/-- Decode and encode agree on every well-formed instruction of the table, in its format (HOST, CL, MG, TEXT). The byte
layout of a HOST command is the model's choice (log entry 1); the frame layouts are R97 to R107 and R252 to R258. -/
def Obligations.DecodeOfEncodeIsTheInstruction : Prop :=
  ∀ c : Config, c.WellFormed → ∀ i : Instr, i.wf c = true → decodePacket c (encode c i) = .ok i

/-- A HOST command is written in one way only: what decodes is encoded back to the same bytes (the layout is the
model's choice, log entry 1). -/
def Obligations.HostCommandsAreWrittenInOneWay : Prop :=
  ∀ (c : Config) (bytes : List Byte) (i : Instr), decodeHost bytes = .ok i → encode c i = .input (.host bytes)

/-- Whatever decodes is an instruction of the table. -/
def Obligations.DecodedInstructionsAreWellFormed : Prop :=
  ∀ (c : Config) (p : Input) (i : Instr), decode c p = .ok i → i.wf c = true

/-- A few words of the table: codes of R91 (the operand bytes of CRC.UPD and REPORT are in the model's layout, log entry 1,
because R90 does not serialise operands), a read request with the header and the first id of 95_test_vectors.md 2.6, D1,
and the descriptor query of 2.7, M1. -/
def Obligations.TableWordsDecode : Prop :=
  decodeTableWord 8 0x00 = some .crcClr ∧
  decodeTableWord 16 0x2F01 = some (.crcUpd 0x2F) ∧
  decodeTableWord 8 0x20 = some .tverify ∧
  decodeTableWord 16 0x0140 = some (.report 1) ∧
  decodeTableWord 8 0xF0 = some .reset ∧
  decodeTableWord 8 0x04 = some (.reserved04To0F 0x04 []) ∧
  decodeDelivery Config.default ⟨⟨9, 7, 1⟩, 0x0702, 0x0104, [0x00, 0x2A, 0x00, 0x00, 0x01]⟩
    = .clReadAttr ⟨9, 7, 1⟩ 0x0702 0x0104 0x00 0x2A [0x00, 0x01] ∧
  decodeDelivery Config.default ⟨⟨9, 0, 0⟩, 0x0004, 0x0000, [0x11, 0x00, 0x00, 0x01]⟩
    = .mgSimpleDescReq ⟨9, 0, 0⟩ 0x11 0x0000 0x01 []

/-- Every reserved host code is IllegalOperation, whatever follows the code: by its bytes, and for each of the seven
rows (R112, R271; D13, D30; log entry 9). -/
def Obligations.ReservedCodesAreIllegalOperations : Prop :=
  ∀ (code : Byte) (ops : List Byte) (s : State),
    (code ∉ [0x00, 0x01, 0x02, 0x03, 0x10, 0x11, 0x12, 0x13, 0x20, 0x30, 0x31, 0x32, 0x33, 0x40, 0x50, 0xF0, 0xF1] →
      ∃ i, decodeHost (code :: ops) = .ok i ∧ exec i s = .next s.illegal) ∧
    exec (.reserved04To0F code ops) s = .next s.illegal ∧
    exec (.reserved14To1F code ops) s = .next s.illegal ∧
    exec (.reserved21To2F code ops) s = .next s.illegal ∧
    exec (.reserved34To3F code ops) s = .next s.illegal ∧
    exec (.reserved41To4F code ops) s = .next s.illegal ∧
    exec (.reserved51ToEF code ops) s = .next s.illegal ∧
    exec (.reservedF2ToFF code ops) s = .next s.illegal

/-- The ids of a read request: one for each two bytes, little-endian, an odd last byte ignored (R100, R234; D20). -/
def Obligations.ReadRequestIdsAreLittleEndianPairs : Prop :=
  ∀ args : List Byte, (idsOf args).length = args.length / 2 ∧
    ∀ j < args.length / 2, (idsOf args)[j]? = some (BitVec.ofNat 16 (fromLe ((args.drop (2 * j)).take 2)))

/-! ### Steps -/

/-- A step performs the decoded next input on the state with that input taken from the queue (log entry 2). -/
def Obligations.StepRunsTheDecodedInput : Prop :=
  ∀ (s : State) (p : Input) (rest : List Input) (i : Instr),
    s.cfg.WellFormed → s.pending = p :: rest → decode s.cfg p = .ok i →
    step s = exec i { s with pending := rest }

/-- The block does nothing on its own: without an input a step changes nothing (R300; log entry 2). -/
def Obligations.StepWithoutInputChangesNothing : Prop :=
  ∀ s : State, s.cfg.WellFormed → s.pending = [] → step s = .next s

/-- FRAME.RX performs the row of the frame it delivers: the arms of `cl_dispatch` and `mg_dispatch` are the meanings of
the CL and MG rows (R109, R230, R231, R250; D18; log entry 7). -/
def Obligations.FrameRxPerformsTheRowOfTheFrame : Prop :=
  ∀ (env : Envelope) (s : State), exec (.frameRx env) s = exec (decodeDelivery s.cfg env) s

/-! ### Invariants -/

/-- The invariant holds right after reset (R42; the default configuration is the model's choice, log entry 4). -/
def Obligations.ResetMeetsTheInvariant : Prop := State.reset.Inv

/-- Every step keeps the invariant: the framer's registers agree, ERR holds a recorded code, the store and the dirty
sets are canonical and well-formed, the configuration stays well-formed (R22 to R27, R33 to R36, R270). -/
def Obligations.EveryStepKeepsTheInvariant : Prop :=
  ∀ s t : State, s.Inv → step s = .next t → t.Inv

/-- The calls of `set_ready` are exactly the changes of the gate's level (R266; that a call is a change of level is
DEDUCED, log entry 13). -/
def Obligations.GateCallsAreTheChangesOfTheGate : Prop :=
  ∀ (i : Instr) (s t : State), exec i s = .next t →
    gateReplay false s.trace = some s.gate → gateReplay false t.trace = some t.gate

/-- Each element of the state of R20, and which operations may write it (R43's write sets, read the other way round; ERR
is written by every operation that ends in an error outcome, by ACQ.START and by RESET; ACQ.REL leaves GATE at 0, R159).
As writers beside R43's operations stand the rows that do what such an operation does: TELEGRAM a poll (log entry 8),
CL.REPORT_ATTR a REPORT (log entry 6), and the arms of FRAME.RX (log entry 7). -/
def Obligations.EachElementIsWrittenOnlyByItsOperations : Prop :=
  ∀ (i : Instr) (s t : State), exec i s = .next t →
    (t.crc ≠ s.crc → i = .crcClr ∨ (∃ b, i = .crcUpd b) ∨ i = .reset) ∧
    ((t.fstate, t.polls, t.tbuf, t.bang) ≠ (s.fstate, s.polls, s.tbuf, s.bang) →
      i = .acqStart ∨ (∃ c, i = .acqPoll c) ∨ i = .acqRel ∨ (i = .tverify ∧ t.ret.status = .checksumMismatch) ∨
      i = .reset ∨ ∃ b d, i = .telegram b d) ∧
    (t.gate ≠ s.gate → i = .acqStart ∨ (∃ c, i = .acqPoll c) ∨ i = .reset ∨ ∃ b d, i = .telegram b d) ∧
    (t.err ≠ s.err → t.ret.status ≠ .ok ∨ i = .acqStart ∨ i = .reset) ∧
    (t.firstRun ≠ s.firstRun →
      (∃ r cl pr k sq a, i = .clDefaultRsp r cl pr k sq a) ∨
      (∃ env k sq a, i = .frameRx env ∧ env.profile ≠ s.cfg.wire.mgProfile ∧
        env.payload = k :: sq :: s.cfg.wire.cmdDefaultRsp :: a) ∨ i = .reset) ∧
    (t.seq ≠ s.seq → (∃ ep, i = .report ep) ∨ i = .reset ∨ ∃ r cl pr sq rs, i = .clReportAttr r cl pr sq rs) ∧
    (t.alwaysPublish ≠ s.alwaysPublish → (∃ p, i = .cfgPolicy p) ∨ i = .reset) ∧
    (t.store ≠ s.store → (∃ k f v, i = .attrWr k f v) ∨ i = .reset) ∧
    (t.dirty ≠ s.dirty →
      (∃ k f v, i = .attrWr k f v) ∨ (∃ k f, i = .attrTouch k f) ∨ (∃ ep, i = .dirtyClr ep) ∨ i = .reset) ∧
    (t.peer ≠ s.peer →
      (∃ r q st l sh re, i = .mgNwkAddrRsp r q st l sh re) ∨ (∃ r q st l sh re, i = .mgIeeeAddrRsp r q st l sh re) ∨
      (∃ env, i = .frameRx env ∧ env.profile = s.cfg.wire.mgProfile ∧
        (env.cluster = s.cfg.wire.mgNwkAddrRsp ∨ env.cluster = s.cfg.wire.mgIeeeAddrRsp)) ∨ i = .reset) ∧
    t.cfg = s.cfg ∧ t.pending = s.pending

/-- ERR is written by an operation that ends in an error outcome, cleared by ACQ.START and RESET, and by nothing else
(R27; D13). -/
def Obligations.ErrRecordsTheLastErrorOutcome : Prop :=
  ∀ (i : Instr) (s t : State), exec i s = .next t →
    (t.ret.status ≠ .ok → t.err = t.ret.status.code) ∧
    (t.ret.status = .ok → i ≠ .acqStart → i ≠ .reset → t.err = s.err) ∧
    (i = .acqStart ∨ i = .reset → t.err = 0)

/-- FIRST_RUN goes from 1 to 0 only on a default response, and from 0 to 1 only by RESET (R29, R238, R268). -/
def Obligations.FirstRunChangesOnlyByAcknowledgementAndReset : Prop :=
  ∀ (i : Instr) (s t : State), exec i s = .next t →
    (s.firstRun = false → t.firstRun = true → i = .reset) ∧
    (s.firstRun = true → t.firstRun = false →
      (∃ r cl pr k sq a, i = .clDefaultRsp r cl pr k sq a) ∨
      ∃ env k sq a, i = .frameRx env ∧ env.profile ≠ s.cfg.wire.mgProfile ∧
        env.payload = k :: sq :: s.cfg.wire.cmdDefaultRsp :: a)

/-- No rule reads PEER (R38): an operation on two states that differ in PEER only gives states that differ in PEER
only. -/
def Obligations.PeerInfluencesNothing : Prop :=
  ∀ (i : Instr) (s t : State) (p : Option PeerAddr), exec i s = .next t →
    ∃ u, exec i { s with peer := p } = .next u ∧ { u with peer := none } = { t with peer := none }

/-- The accumulator CRC is read by CRC.UPD and CRC.RD only (R21, R43): any other operation on two states that differ in
CRC only gives states that differ in CRC only. -/
def Obligations.AccumulatorInfluencesOnlyItsOperations : Prop :=
  ∀ (i : Instr) (s t : State) (v : Half), i ≠ .crcRd → (∀ b, i ≠ .crcUpd b) → exec i s = .next t →
    ∃ u, exec i { s with crc := v } = .next u ∧ { u with crc := 0 } = { t with crc := 0 }

/-! ### Checksum Engine -/

/-- CRC.CLR, CRC.UPD, CRC.RD and CSUM (R132 to R135), with `crc_step` in its bitwise form (R131). -/
def Obligations.ChecksumOperationsInBitwiseForm : Prop :=
  ∀ (b : Byte) (p : List Byte) (s : State),
    exec .crcClr s = .next { s with crc := 0x0000, ret := ⟨.ok, .none⟩ } ∧
    exec (.crcUpd b) s = .next { s with crc := crcStepBits s.crc b, ret := ⟨.ok, .none⟩ } ∧
    exec .crcRd s = .next { s with ret := ⟨.ok, .word s.crc⟩ } ∧
    exec (.csum p) s = .next { s with ret := ⟨.ok, .word (p.foldl crcStepBits 0x0000)⟩ }

/-- CRC.CLR, CRC.UPD of each byte and CRC.RD return what CSUM of the bytes returns (R136 (d); `checksumOps` is R117). -/
def Obligations.StepwiseChecksumEqualsOneShot : Prop :=
  ∀ (p : List Byte) (s : State), ∃ t u,
    runOps (checksumOps p) s = .next t ∧ exec (.csum p) s = .next u ∧
    t.ret = u.ret ∧ t = { u with crc := crc16 p }

/-- Residue: the checksum of a sequence followed by its own checksum, low byte first, is zero (R136 (f)). -/
def Obligations.ChecksumOfChecksummedSequenceIsZero : Prop :=
  ∀ p : List Byte, crc16 (p ++ le16 (crc16 p)) = 0x0000

/-- Round trip: a telegram with its own checksum field validates (R184). -/
def Obligations.TelegramWithItsOwnChecksumValidates : Prop :=
  ∀ p : List Byte, valid (p ++ hex4 (crc16 p)) = true

/-! ### Framer -/

/-- ACQ.START begins afresh in every state (R151; D3, D8, D30; `set_ready` is called iff the gate was 0, log entry 13). -/
def Obligations.AcqStartBeginsAfresh : Prop :=
  ∀ s : State, exec .acqStart s = .next
    { s with
      fstate := .scanning, polls := 0, tbuf := [], bang := none, gate := true, err := 0
      trace := if s.gate then s.trace else s.trace ++ [.setReady true], ret := ⟨.ok, .none⟩ }

/-- ACQ.POLL in SCANNING (R153, R156 to R158, R160; D4, D5, D7). -/
def Obligations.PollInScanning : Prop :=
  ∀ (c : List Byte) (s : State), s.fstate = .scanning →
    (s.cfg.startMark ∉ c → s.polls + 1 ≠ s.cfg.n1 →
      exec (.acqPoll c) s = .next (s.acquiring .scanning (s.polls + 1) s.tbuf s.bang)) ∧
    (s.cfg.startMark ∉ c → s.polls + 1 = s.cfg.n1 → exec (.acqPoll c) s = .next (s.failed .acquisitionTimeout)) ∧
    (∀ pre b, c = pre ++ s.cfg.startMark :: b → s.cfg.startMark ∉ pre →
      (s.cfg.fits (b.length + 1) = false → exec (.acqPoll c) s = .next (s.failed .bufferOverflow)) ∧
      (s.cfg.fits (b.length + 1) = true → s.cfg.endMark ∉ s.cfg.startMark :: b →
        exec (.acqPoll c) s = .next (s.acquiring .body 0 (s.cfg.startMark :: b) s.bang)) ∧
      (∀ j, s.cfg.fits (b.length + 1) = true → findByte s.cfg.endMark (s.cfg.startMark :: b) = some j →
        (b.length + 1 < j + 1 + s.cfg.csumDigits →
          exec (.acqPoll c) s = .next (s.acquiring .tail 0 (s.cfg.startMark :: b) (some j))) ∧
        (j + 1 + s.cfg.csumDigits ≤ b.length + 1 →
          exec (.acqPoll c) s = .next (s.completed (s.cfg.startMark :: b) j))))

/-- ACQ.POLL in BODY (R154, R156 to R158, R160; C1, D4, D5, D7). -/
def Obligations.PollInBody : Prop :=
  ∀ (c : List Byte) (s : State), s.fstate = .body →
    (s.cfg.fits (s.tbuf ++ c).length = false → exec (.acqPoll c) s = .next (s.failed .bufferOverflow)) ∧
    (s.cfg.fits (s.tbuf ++ c).length = true → s.cfg.endMark ∉ s.tbuf ++ c →
      (s.polls + 1 ≠ s.cfg.n2 →
        exec (.acqPoll c) s = .next (s.acquiring .body (s.polls + 1) (s.tbuf ++ c) s.bang)) ∧
      (s.polls + 1 = s.cfg.n2 → exec (.acqPoll c) s = .next (s.failed .acquisitionTimeout))) ∧
    (∀ j, s.cfg.fits (s.tbuf ++ c).length = true → findByte s.cfg.endMark (s.tbuf ++ c) = some j →
      ((s.tbuf ++ c).length < j + 1 + s.cfg.csumDigits →
        exec (.acqPoll c) s = .next (s.acquiring .tail 0 (s.tbuf ++ c) (some j))) ∧
      (j + 1 + s.cfg.csumDigits ≤ (s.tbuf ++ c).length →
        exec (.acqPoll c) s = .next (s.completed (s.tbuf ++ c) j)))

/-- ACQ.POLL in TAIL with the end marker at `j` (R155 to R158, R160; C6, D4, D7). -/
def Obligations.PollInTail : Prop :=
  ∀ (c : List Byte) (s : State) (j : Nat), s.fstate = .tail → s.bang = some j →
    (s.cfg.fits (s.tbuf ++ c).length = false → exec (.acqPoll c) s = .next (s.failed .bufferOverflow)) ∧
    (s.cfg.fits (s.tbuf ++ c).length = true →
      ((s.tbuf ++ c).length < j + 1 + s.cfg.csumDigits →
        (s.polls + 1 ≠ s.cfg.n3 →
          exec (.acqPoll c) s = .next (s.acquiring .tail (s.polls + 1) (s.tbuf ++ c) (some j))) ∧
        (s.polls + 1 = s.cfg.n3 → exec (.acqPoll c) s = .next (s.failed .acquisitionTimeout))) ∧
      (j + 1 + s.cfg.csumDigits ≤ (s.tbuf ++ c).length →
        exec (.acqPoll c) s = .next (s.completed (s.tbuf ++ c) j)))

/-- ACQ.REL and ACQ.RD where they are admitted, with their effect, and where they are not; ACQ.POLL is IllegalOperation in
IDLE and COMPLETE, and in SCANNING, BODY and TAIL it is performed: OK, or a timeout or an overflow (R152, R159, R167; D3,
D7, D30, D35; the effect of a poll is said state by state in PollInScanning, PollInBody and PollInTail). -/
def Obligations.ReleaseAndReadOnlyWhereAdmitted : Prop :=
  ∀ (c : List Byte) (s : State),
    (s.fstate = .complete ∨ s.fstate = .idle →
      exec .acqRel s = .next { s with fstate := .idle, polls := 0, tbuf := [], bang := none, ret := ⟨.ok, .none⟩ } ∧
      exec (.acqPoll c) s = .next s.illegal) ∧
    (s.fstate ≠ .complete → s.fstate ≠ .idle → exec .acqRel s = .next s.illegal) ∧
    (s.fstate = .complete → exec .acqRd s = .next { s with ret := ⟨.ok, .bytes s.tbuf⟩ }) ∧
    (s.fstate ≠ .complete → exec .acqRd s = .next s.illegal) ∧
    (s.fstate ≠ .complete → s.fstate ≠ .idle →
      ∃ t, exec (.acqPoll c) s = .next t ∧ t.ret.status ∈ [.ok, .acquisitionTimeout, .bufferOverflow])

/-- The transition relation of FSTATE: no other change of FSTATE exists (R161; TELEGRAM is a poll, log entry 8). -/
def Obligations.FramerTransitionsAreComplete : Prop :=
  ∀ (i : Instr) (s t : State), exec i s = .next t → t.fstate ≠ s.fstate →
    (i = .acqStart ∧ t.fstate = .scanning) ∨
    (i = .reset ∧ t.fstate = .idle) ∨
    (((∃ c, i = .acqPoll c) ∨ ∃ b d, i = .telegram b d) ∧
      (s.fstate, t.fstate) ∈
        [(FState.scanning, FState.idle), (.scanning, .body), (.scanning, .tail), (.scanning, .complete),
          (.body, .idle), (.body, .tail), (.body, .complete), (.tail, .idle), (.tail, .complete)]) ∨
    (i = .acqRel ∧ s.fstate = .complete ∧ t.fstate = .idle) ∨
    (i = .tverify ∧ s.fstate = .complete ∧ t.fstate = .idle)

/-- Termination: an acquisition has ended after N1 + N2 + N3 polls, whatever the byte source answers (R163). -/
def Obligations.AcquisitionEndsWithinItsBudgets : Prop :=
  ∀ (s : State) (chunks : List (List Byte)), s.cfg.WellFormed →
    chunks.length = s.cfg.n1 + s.cfg.n2 + s.cfg.n3 →
    ∃ t, acquire chunks s = .next t ∧ (t.fstate = .complete ∨ t.fstate = .idle)

/-- The host waits at most N1*T1 + N2*T2 + N3*T3 milliseconds in one acquisition (R312). -/
def Obligations.AcquisitionWaitIsBounded : Prop :=
  ∀ (s t : State) (chunks : List (List Byte)), s.cfg.WellFormed → exec .acqStart s = .next t →
    waited chunks t ≤ s.cfg.n1 * s.cfg.t1 + s.cfg.n2 * s.cfg.t2 + s.cfg.n3 * s.cfg.t3

/-- Body timeout: in BODY with no poll spent, N2 chunks without an end marker end in AcquisitionTimeout with nothing
held, and no earlier poll of them ends the acquisition (R164; the buffer is assumed large enough). -/
def Obligations.BodyWithoutEndMarkerTimesOut : Prop :=
  ∀ (s : State) (chunks : List (List Byte)), s.Inv → s.fstate = .body → s.polls = 0 →
    chunks.length = s.cfg.n2 → (∀ c ∈ chunks, s.cfg.endMark ∉ c) →
    s.cfg.fits (s.tbuf ++ chunks.flatten).length = true →
    (∃ t, pollWhile chunks s = .next t ∧ t.ret.status = .acquisitionTimeout ∧ t.fstate = .idle ∧ t.tbuf = []) ∧
    ∀ k < s.cfg.n2, ∃ u, pollWhile (chunks.take k) s = .next u ∧ u.fstate = .body ∧ u.polls = k

/-- Independence of chunking: a stream with one telegram is framed to that telegram whatever its division into chunks,
if its bytes come within the budgets, and else the acquisition times out (R162; the buffer is assumed large enough). -/
def Obligations.ChunkingDoesNotMatter : Prop :=
  ∀ (s : State) (chunks : List (List Byte)) (pre body digits post : List Byte),
    s.cfg.WellFormed → s.cfg.startMark ∉ pre → s.cfg.endMark ∉ body → digits.length = s.cfg.csumDigits →
    chunks.flatten = pre ++ (telegramBytes s.cfg body digits ++ post) →
    s.cfg.fits (telegramBytes s.cfg body digits ++ post).length = true →
    let a := chunkOf pre.length chunks
    let b := chunkOf (pre.length + (1 + body.length)) chunks
    let d := chunkOf (pre.length + (1 + body.length + digits.length)) chunks
    (a ≤ s.cfg.n1 ∧ b - a ≤ s.cfg.n2 ∧ d - b ≤ s.cfg.n3 →
      ∃ t, acquire (chunks.take d) s = .next t ∧ t.fstate = .complete ∧ t.tbuf = telegramBytes s.cfg body digits) ∧
    (¬(a ≤ s.cfg.n1 ∧ b - a ≤ s.cfg.n2 ∧ d - b ≤ s.cfg.n3) →
      ∃ t, acquire chunks s = .next t ∧ t.fstate = .idle ∧ t.ret = ⟨.acquisitionTimeout, .none⟩)

/-- TELEGRAM: in every state it does what the poll of exactly that telegram does, and in SCANNING, within BUF_CAP, it
completes the acquisition with it (log entry 8 says what the row stands for as an instruction, the model's choice; R93,
R153). -/
def Obligations.TelegramInOneChunkIsFramed : Prop :=
  ∀ (s : State) (body digits : List Byte),
    exec (.telegram body digits) s = exec (.acqPoll (telegramBytes s.cfg body digits)) s ∧
    (s.fstate = .scanning → s.cfg.startMark ≠ s.cfg.endMark →
    (Instr.telegram body digits).wf s.cfg = true → s.cfg.fits (telegramBytes s.cfg body digits).length = true →
    ∃ t, exec (.telegram body digits) s = .next t ∧ t.fstate = .complete ∧
      t.tbuf = telegramBytes s.cfg body digits ∧ t.bang = some (body.length + 1) ∧ t.gate = false ∧
      t.ret = ⟨.ok, .framer .complete⟩ ∧
      t = { s with
        fstate := t.fstate, polls := 0, tbuf := t.tbuf, bang := t.bang, gate := t.gate
        trace := s.traceGateDown, ret := t.ret })

/-! ### Validation -/

/-- TVERIFY: OK leaves everything, a mismatch discards the telegram, and outside COMPLETE it is refused (R182, R274;
D11, D30). -/
def Obligations.TverifyKeepsOrDiscards : Prop :=
  ∀ s : State,
    (s.fstate = .complete → valid s.tbuf = true → exec .tverify s = .next { s with ret := ⟨.ok, .none⟩ }) ∧
    (s.fstate = .complete → valid s.tbuf = false →
      exec .tverify s = .next
        { s with
          fstate := .idle, polls := 0, tbuf := [], bang := none, err := 2, ret := ⟨.checksumMismatch, .none⟩ }) ∧
    (s.fstate ≠ .complete → exec .tverify s = .next s.illegal)

/-- AcquisitionTimeout is raised by exactly the polls R273 lists (the last of a budget without the state's exit condition;
the overflow of a finite buffer is another outcome: R160, R272, R279, D7), ChecksumMismatch by TVERIFY exactly when the
telegram held is not valid (R274), and each changes exactly what its rule lists (that the timeout calls set_ready iff the
gate was 1 is R266 as log entry 13 reads it). -/
def Obligations.TimeoutAndMismatchAreRaisedAsListed : Prop :=
  ∀ (c : List Byte) (s t u : State), exec (.acqPoll c) s = .next t → exec .tverify s = .next u →
    (t.ret.status = .acquisitionTimeout ↔
      (s.fstate = .scanning ∧ s.polls + 1 = s.cfg.n1 ∧ s.cfg.startMark ∉ c) ∨
      (s.fstate = .body ∧ s.polls + 1 = s.cfg.n2 ∧ s.cfg.fits (s.tbuf ++ c).length = true ∧ s.cfg.endMark ∉ s.tbuf ++ c) ∨
      (s.fstate = .tail ∧ s.polls + 1 = s.cfg.n3 ∧ s.cfg.fits (s.tbuf ++ c).length = true ∧
        ∀ j, s.bang = some j → (s.tbuf ++ c).length < j + 1 + s.cfg.csumDigits)) ∧
    (t.ret.status = .acquisitionTimeout → t =
      { s with
        fstate := .idle, polls := 0, tbuf := [], bang := none, gate := false, err := 1
        trace := s.traceGateDown, ret := ⟨.acquisitionTimeout, .none⟩ }) ∧
    (u.ret.status = .checksumMismatch ↔ s.fstate = .complete ∧ valid s.tbuf = false) ∧
    (u.ret.status = .checksumMismatch → u =
      { s with fstate := .idle, polls := 0, tbuf := [], bang := none, err := 2, ret := ⟨.checksumMismatch, .none⟩ })

/-- A telegram is valid exactly when its last four bytes are hex digits whose number is the checksum of the bytes
before them (R96, R181; D10). -/
def Obligations.ValidMeansFieldIsChecksum : Prop :=
  ∀ (p : List Byte) (h0 h1 h2 h3 : Byte),
    valid (p ++ [h0, h1, h2, h3]) = true ↔
      ∃ d0 d1 d2 d3, hexVal h0 = some d0 ∧ hexVal h1 = some d1 ∧ hexVal h2 = some d2 ∧ hexVal h3 = some d3 ∧
        (crc16 p).toNat = 4096 * d0 + 256 * d1 + 16 * d2 + d3

/-- A failed cycle leaves the values, the dirty sets, the sequence counter and the first-run flag as they were, and
sends nothing (R36 (d), R185, R305). -/
def Obligations.FailedCycleLeavesTheStoreAlone : Prop :=
  ∀ (s t : State) (chunks : List (List Byte)) (parser : List Instr), acquire chunks s = .next t →
    (t.fstate ≠ .complete ∨ valid t.tbuf = false) →
    ∃ u, cycle chunks parser s = .next u ∧
      u.store = s.store ∧ u.dirty = s.dirty ∧ u.seq = s.seq ∧ u.firstRun = s.firstRun ∧ u.fstate ≠ .complete ∧
      ∀ tx a, OutEvent.transmit tx a ∈ u.trace → OutEvent.transmit tx a ∈ s.trace

/-! ### Attribute Store -/

/-- ATTR.WR of a known key and a well-formed value: marked iff the value is unset or differs or the policy says so, the
value stored, every other key and endpoint as before (R191, R198; `force` is D15, the order of a set D14). An integer that
fits the tag's fixed width is written as its `le_N`, is not refused, and is what the stored bytes mean (R104). -/
def Obligations.AttrWrMarksAndStores : Prop :=
  ∀ (k : Key) (force : Bool) (v : List Byte) (s : State) (r : AttrRow),
    s.cfg.row k = some r → Sparse.Sorted s.store → Sparse.Sorted s.dirty →
    (∀ n x, s.cfg.width r.tag = .fixed n → x < 256 ^ n →
      numericWrite s.cfg k force x = some (.attrWr k force (leN n x)) ∧ s.cfg.valueWf r.tag (leN n x) = true ∧
      ∃ t, exec (.attrWr k force (leN n x)) s = .next t ∧ t.ret.status = .ok ∧ (t.value k).map fromLe = some x) ∧
    (s.cfg.valueWf r.tag v = true → ∃ t d, exec (.attrWr k force v) s = .next t ∧
      (d = true ↔ s.value k = none ∨ s.value k ≠ some v ∨ s.firstRun = true ∨ s.alwaysPublish = true ∨ force = true) ∧
      t.ret = ⟨.ok, .marked d⟩ ∧
      t.value k = some v ∧ (∀ k', k' ≠ k → t.value k' = s.value k') ∧
      t.dirtyOf k.ep = (if d = true ∧ k ∉ s.dirtyOf k.ep then s.dirtyOf k.ep ++ [k] else s.dirtyOf k.ep) ∧
      (∀ ep, ep ≠ k.ep → t.dirtyOf ep = s.dirtyOf ep) ∧
      t = { s with store := t.store, dirty := t.dirty, ret := t.ret })

/-- ATTR.TOUCH of a known key: marked iff the policy says so, no value changed (R193, R198; `force` is D15). -/
def Obligations.AttrTouchMarksOnly : Prop :=
  ∀ (k : Key) (force : Bool) (s : State) (r : AttrRow), s.cfg.row k = some r → Sparse.Sorted s.dirty →
    ∃ t d, exec (.attrTouch k force) s = .next t ∧
      (d = true ↔ s.firstRun = true ∨ s.alwaysPublish = true ∨ force = true) ∧
      t.ret = ⟨.ok, .marked d⟩ ∧
      t.dirtyOf k.ep = (if d = true ∧ k ∉ s.dirtyOf k.ep then s.dirtyOf k.ep ++ [k] else s.dirtyOf k.ep) ∧
      (∀ ep, ep ≠ k.ep → t.dirtyOf ep = s.dirtyOf ep) ∧
      t = { s with dirty := t.dirty, ret := t.ret }

/-- ATTR.RD: tag and value of a known key, absent for an unknown one, nothing written (R194). -/
def Obligations.AttrRdReturnsTagAndValue : Prop :=
  ∀ (k : Key) (s : State),
    (∀ r, s.cfg.row k = some r → exec (.attrRd k) s = .next { s with ret := ⟨.ok, .attr r.tag (s.value k)⟩ }) ∧
    (s.cfg.row k = none → exec (.attrRd k) s = .next { s with ret := ⟨.ok, .absent⟩ })

/-- DIRTY.CLR of a known endpoint empties its set and no other (R195; D14). -/
def Obligations.DirtyClrEmptiesOneSet : Prop :=
  ∀ (ep : Byte) (s : State), s.cfg.hasEndpoint ep = true → Sparse.Sorted s.dirty →
    ∃ t, exec (.dirtyClr ep) s = .next t ∧ t.dirtyOf ep = [] ∧ (∀ ep', ep' ≠ ep → t.dirtyOf ep' = s.dirtyOf ep') ∧
      t.ret = ⟨.ok, .none⟩ ∧ t = { s with dirty := t.dirty, ret := t.ret }

/-- What the store refuses: an unknown key or endpoint, an ill-formed value (R192; D15). -/
def Obligations.StoreRefusals : Prop :=
  ∀ (k : Key) (ep : Byte) (force : Bool) (v : List Byte) (s : State),
    (s.cfg.row k = none →
      exec (.attrWr k force v) s = .next s.illegal ∧ exec (.attrTouch k force) s = .next s.illegal) ∧
    (∀ r, s.cfg.row k = some r → s.cfg.valueWf r.tag v = false → exec (.attrWr k force v) s = .next s.illegal) ∧
    (s.cfg.hasEndpoint ep = false →
      exec (.dirtyClr ep) s = .next s.illegal ∧ exec (.report ep) s = .next s.illegal)

/-- Idempotence: in Steady without always-publish, an unforced pass that gives no key two different values, repeated
after clearing every dirty set, marks nothing and changes no value (R197 with the condition of log entry 23). -/
def Obligations.RepeatedParsePassMarksNothing : Prop :=
  ∀ (s : State) (w : List Instr), s.Inv → s.firstRun = false → s.alwaysPublish = false →
    (∀ i ∈ w, unforcedWrite i = true) → OneValueEach w →
    ∃ t u, runOps w s = .next t ∧
      runOps (s.cfg.attrTable.map (fun r => .dirtyClr r.key.ep) ++ w) t = .next u ∧
      u.dirty = [] ∧ u.store = t.store

/-- R197 as it is worded, without that condition; it fails for a pass that writes two values to one key (log entry 23). -/
def Obligations.RepeatedParsePassAsWorded : Prop :=
  ∀ (s : State) (w : List Instr), s.Inv → s.firstRun = false → s.alwaysPublish = false →
    (∀ i ∈ w, unforcedWrite i = true) →
    ∃ t u, runOps w s = .next t ∧
      runOps (s.cfg.attrTable.map (fun r => .dirtyClr r.key.ep) ++ w) t = .next u ∧
      u.dirty = [] ∧ u.store = t.store

/-! ### Report Encoder -/

/-- REPORT of a known endpoint: one frame for each group, in order, each with the sequence number that the frames
accepted before it leave, SEQ advanced by one for each accepted frame, a failed transmit swallowed, the dirty sets and
values untouched (R213 to R217; D14, D16, D31; the answers come first from the state's list, log entry 3). -/
def Obligations.ReportSendsOneFrameForEachGroup : Prop :=
  ∀ (ep : Byte) (s : State), s.cfg.hasEndpoint ep = true →
    ∃ t sent, exec (.report ep) s = .next t ∧ t.ret = ⟨.ok, .reports sent⟩ ∧
      sent.length = (groups (s.reportable ep)).length ∧
      (∀ n g, (groups (s.reportable ep))[n]? = some g → ∃ a, sent[n]? = some
        (reportFrame s.cfg.wire (s.seq + BitVec.ofNat 8 ((sent.take n).countP (fun x => x.2.2)))
          (g.2.filterMap s.record), g.1, a)) ∧
      (∀ n a, s.txAnswers[n]? = some a → n < sent.length → (sent[n]?).map (fun x => x.2.2) = some a) ∧
      t.seq = s.seq + BitVec.ofNat 8 (sent.countP (fun x => x.2.2)) ∧
      t.trace = s.trace ++ sent.map (fun x =>
        .transmit ⟨⟨s.cfg.reportDest, ep, s.cfg.reportDstEp⟩, x.2.1, s.cfg.profileId, x.1⟩ x.2.2) ∧
      t.txAnswers = s.txAnswers.drop sent.length ∧
      t = { s with seq := t.seq, txAnswers := t.txAnswers, freeIdx := t.freeIdx, trace := t.trace, ret := t.ret }

/-- The groups of a list of keys: one for each cluster, in the order of first occurrence, each with exactly the keys of
its cluster in their order (R212). -/
def Obligations.GroupsAreByClusterInFirstSeenOrder : Prop :=
  ∀ l : List Key,
    ((groups l).map Prod.fst).Nodup ∧
    (∀ c, c ∈ (groups l).map Prod.fst ↔ c ∈ l.map Key.cluster) ∧
    ((groups l).map Prod.fst).Pairwise (fun c d => (l.map Key.cluster).idxOf c < (l.map Key.cluster).idxOf d) ∧
    ∀ g ∈ groups l, g.2 ≠ [] ∧ g.2 = l.filter (fun k => k.cluster == g.1)

/-- An unset value is never reported and every set one that is dirty is (R211; D14): the keys that REPORT sends are the
dirty keys whose value is set. -/
def Obligations.ReportedKeysAreTheDirtySetOnes : Prop :=
  ∀ (ep : Byte) (s : State) (k : Key),
    (∃ g ∈ groups (s.reportable ep), k ∈ g.2 ∧ ∃ rec ∈ g.2.filterMap s.record, s.record k = some rec) ↔
      k ∈ s.dirtyOf ep ∧ ∃ r v, s.cfg.row k = some r ∧ s.value k = some v ∧ s.record k = some ⟨k.id, r.tag, v⟩

/-- The bytes of a report frame over keys with set values, and its length: the header, then for each key its id
(little-endian), its tag and its value; a key with an unset value has no record (R99, R217). -/
def Obligations.ReportFrameLayout : Prop :=
  ∀ (s : State) (seq : Byte) (ms : List Key), (∀ k ∈ ms, (s.value k).isSome = true) →
    let val := fun k : Key => (s.value k).getD []
    let tag := fun k : Key => ((s.cfg.row k).map (fun r => r.tag)).getD 0
    let bytes := fun k : Key => [BitVec.ofNat 8 k.id.toNat, BitVec.ofNat 8 (k.id.toNat / 256), tag k] ++ val k
    let frame := reportFrame s.cfg.wire seq (ms.filterMap s.record)
    frame = [s.cfg.wire.fkReport, seq, s.cfg.wire.cmdReportAttr] ++ (ms.map bytes).flatten ∧
    frame.length = 3 + (ms.map (fun k => 3 + (val k).length)).sum ∧
    ∀ k, s.value k = none → s.record k = none

/-! ### Command decoder, cluster library -/

/-- CL.READ_ATTR, as a row and delivered by FRAME.RX: one response with a result for each id, sent to the sender with
the endpoints exchanged, and no state written (R101, R233 to R237; D19, D20, D21, D31). -/
def Obligations.ReadAttributesAnswersEachId : Prop :=
  ∀ (r : Route) (cluster profile : Half) (kind seq : Byte) (args : List Byte) (s : State),
    let res : Half → List Byte := fun id =>
      match s.cfg.row ⟨r.dstEp, cluster, id⟩, s.value ⟨r.dstEp, cluster, id⟩ with
      | some row, some v => le16 id ++ [s.cfg.wire.stSuccess, row.tag] ++ v
      | _, _ => le16 id ++ [s.cfg.wire.stUnsupportedAttr]
    let frame := [s.cfg.wire.fkResponse, seq, s.cfg.wire.cmdReadAttrRsp] ++ (idsOf args).flatMap res
    let t := s.responded ⟨⟨r.party, r.dstEp, r.srcEp⟩, cluster, profile, frame⟩
    exec (.clReadAttr r cluster profile kind seq args) s = .next t ∧
    (profile ≠ s.cfg.wire.mgProfile → s.cfg.wire.hdrLen ≤ args.length + 3 →
      exec (.frameRx ⟨r, cluster, profile, kind :: seq :: s.cfg.wire.cmdReadAttr :: args⟩) s = .next t)

/-- The length of a read-attributes response (R241). -/
def Obligations.ReadAttributesResponseLength : Prop :=
  ∀ (w : Wire) (seq : Byte) (results : List AttrResult),
    (readAttrRspFrame w seq results).length = 3 + (results.map (fun r =>
      match r with
      | .found _ _ v => 4 + v.length
      | .unsupported _ => 3)).sum

/-- CL.DEFAULT_RSP clears FIRST_RUN and nothing else; any other command and a short frame are logged and dropped
(R102, R232, R238, R239; D22). -/
def Obligations.OtherClFramesAcknowledgeOrDrop : Prop :=
  ∀ (r : Route) (cluster profile : Half) (kind seq cmd : Byte) (args payload : List Byte) (s : State),
    exec (.clDefaultRsp r cluster profile kind seq args) s
      = .next { s with firstRun := false, ret := ⟨.ok, .frames []⟩ } ∧
    exec (.clOther r cluster profile kind seq cmd args) s = .next (s.malformed (.unknownClCommand cmd)) ∧
    exec (.clShort r cluster profile payload) s = .next (s.malformed .shortFrame)

/-- Delivered frames that are not answered: a short CL frame (fewer bytes than HDR_LEN or than the header's three; one of
3 bytes is not short where HDR_LEN is 3), an unknown CL command (those the block itself sends among them), a short MG
frame (an empty one, or a body shorter than its arm's fixed part), an unknown MG command, each logged and dropped, and the
ignored node-descriptor notification (R109, R113, R230 to R232, R239, R250, R251, R259, R260; that MG is told by the
profile is D18, MG short frames are D26, the code 4 is D13, HDR_LEN other than 3 is log entry 26). -/
def Obligations.DroppedAndIgnoredFrames : Prop :=
  ∀ (r : Route) (cluster profile : Half) (kind seq cmd tseq : Byte) (args payload body : List Byte) (s : State),
    (profile ≠ s.cfg.wire.mgProfile →
      (payload.length < 3 ∨ payload.length < s.cfg.wire.hdrLen →
        exec (.frameRx ⟨r, cluster, profile, payload⟩) s = .next (s.malformed .shortFrame)) ∧
      (s.cfg.wire.hdrLen ≤ args.length + 3 → cmd ≠ s.cfg.wire.cmdReadAttr → cmd ≠ s.cfg.wire.cmdDefaultRsp →
        exec (.frameRx ⟨r, cluster, profile, kind :: seq :: cmd :: args⟩) s = .next (s.malformed (.unknownClCommand cmd)))) ∧
    (payload = [] ∨
      (cluster = s.cfg.wire.mgSimpleDescReq ∧ payload.length < 4) ∨
      (cluster = s.cfg.wire.mgActiveEpReq ∧ payload.length < 3 ∧ s.cfg.wire.Distinct) ∨
      (cluster ∈ [s.cfg.wire.mgNwkAddrRsp, s.cfg.wire.mgIeeeAddrRsp] ∧ payload.length < 12 ∧ s.cfg.wire.Distinct) →
      exec (.frameRx ⟨r, cluster, s.cfg.wire.mgProfile, payload⟩) s = .next (s.malformed .shortFrame)) ∧
    (cluster ∉ s.cfg.wire.mgCommands →
      exec (.frameRx ⟨r, cluster, s.cfg.wire.mgProfile, tseq :: body⟩) s = .next (s.malformed (.unknownMgCommand cluster))) ∧
    (s.cfg.wire.Distinct →
      exec (.frameRx ⟨r, s.cfg.wire.mgNodeDescRsp, s.cfg.wire.mgProfile, tseq :: body⟩) s
        = .next { s with ret := ⟨.ok, .frames []⟩ })

/-! ### Command decoder, management -/

/-- A descriptor query for a configured endpoint is answered with its descriptor, byte for byte, and one for any other
endpoint is dropped (R107, R252, R253, R261; layouts of D25, D26; a descriptor of 256 bytes or more is log entry 14). -/
def Obligations.DescriptorQueryIsAnswered : Prop :=
  ∀ (r : Route) (tseq : Byte) (addr : Half) (ep : Byte) (rest : List Byte) (s : State),
    (∀ e, s.cfg.epDesc ep = some e →
      let list := fun cs : List Half => BitVec.ofNat 8 cs.length :: cs.flatMap le16
      let desc := [e.endpoint] ++ le16 e.profile ++ le16 e.device ++ [e.version]
        ++ list e.inClusters ++ list e.outClusters
      desc.length = 8 + 2 * e.inClusters.length + 2 * e.outClusters.length ∧
      ∃ len : Byte, (desc.length < 256 → len = BitVec.ofNat 8 desc.length) ∧
        exec (.mgSimpleDescReq r tseq addr ep rest) s = .next (s.responded
          ⟨⟨r.party, r.dstEp, r.srcEp⟩, s.cfg.wire.mgSimpleDescReq ||| 0x8000, s.cfg.wire.mgProfile,
            [tseq, s.cfg.wire.stSuccess] ++ le16 addr ++ [len] ++ desc⟩)) ∧
    (s.cfg.epDesc ep = none →
      exec (.mgSimpleDescReq r tseq addr ep rest) s = .next (s.malformed .unknownEndpoint))

/-- An active-endpoint query is answered with every endpoint of EP_TABLE in table order (R254, R255, R261; D25). -/
def Obligations.ActiveEndpointQueryIsAnswered : Prop :=
  ∀ (r : Route) (tseq : Byte) (addr : Half) (rest : List Byte) (s : State),
    exec (.mgActiveEpReq r tseq addr rest) s = .next (s.responded
      ⟨⟨r.party, r.dstEp, r.srcEp⟩, s.cfg.wire.mgActiveEpReq ||| 0x8000, s.cfg.wire.mgProfile,
        [tseq, s.cfg.wire.stSuccess] ++ le16 addr ++ [BitVec.ofNat 8 s.cfg.epTable.length]
          ++ s.cfg.epTable.map (fun e => e.endpoint)⟩)

/-- Bind and unbind are acknowledged unconditionally (R256, R257, R261; D25). -/
def Obligations.BindAndUnbindAreAcknowledged : Prop :=
  ∀ (r : Route) (tseq : Byte) (body : List Byte) (s : State),
    exec (.mgBindReq r tseq body) s = .next (s.responded
      ⟨⟨r.party, r.dstEp, r.srcEp⟩, s.cfg.wire.mgBindReq ||| 0x8000, s.cfg.wire.mgProfile,
        [tseq, s.cfg.wire.stSuccess]⟩) ∧
    exec (.mgUnbindReq r tseq body) s = .next (s.responded
      ⟨⟨r.party, r.dstEp, r.srcEp⟩, s.cfg.wire.mgUnbindReq ||| 0x8000, s.cfg.wire.mgProfile,
        [tseq, s.cfg.wire.stSuccess]⟩)

/-- The notifications and the drops of the management namespace: an address response writes PEER only, a
node-descriptor notification nothing, any other command and a short frame are logged and dropped (R251, R258 to R260;
D25, D26). -/
def Obligations.NotificationsAndDropsOfManagement : Prop :=
  ∀ (r : Route) (cluster : Half) (tseq status : Byte) (long : BitVec 64) (short : Half) (rest payload : List Byte)
    (s : State),
    exec (.mgNwkAddrRsp r tseq status long short rest) s
      = .next { s with peer := some ⟨long, short⟩, ret := ⟨.ok, .frames []⟩ } ∧
    exec (.mgIeeeAddrRsp r tseq status long short rest) s
      = .next { s with peer := some ⟨long, short⟩, ret := ⟨.ok, .frames []⟩ } ∧
    exec (.mgNodeDescRsp r tseq rest) s = .next { s with ret := ⟨.ok, .frames []⟩ } ∧
    exec (.mgOther r cluster tseq rest) s = .next (s.malformed (.unknownMgCommand cluster)) ∧
    exec (.mgShort r cluster payload) s = .next (s.malformed .shortFrame)

/-- Addresses in an address response are little-endian: its encoded form, delivered by FRAME.RX, writes exactly those
addresses to PEER (R62, R258; D20, D25). -/
def Obligations.DeliveredAddressResponseIsLearned : Prop :=
  ∀ (r : Route) (tseq status : Byte) (long : BitVec 64) (short : Half) (rest : List Byte) (s : State),
    s.cfg.wire.Distinct →
    ∀ cluster ∈ [s.cfg.wire.mgNwkAddrRsp, s.cfg.wire.mgIeeeAddrRsp],
      exec (.frameRx ⟨r, cluster, s.cfg.wire.mgProfile,
        tseq :: status :: (leN 8 long.toNat ++ (leN 2 short.toNat ++ rest))⟩) s
        = .next { s with peer := some ⟨long, short⟩, ret := ⟨.ok, .frames []⟩ }

/-- The rows of outbound frames: each hands its frame to the transport; only the report frame advances SEQ, and only
when it is accepted (R9, R98, R101, R214, R237, R253 to R257, R261; log entry 6: these rows as instructions are the
model's choice; log entry 17: an MG row's cluster is its own constant). -/
def Obligations.OutboundRowsHandOverTheirFrame : Prop :=
  ∀ (r : Route) (cluster profile addr : Half) (seq len : Byte) (results : List AttrResult) (records : List AttrRecord)
    (e : EpDesc) (eps : List Byte) (s : State),
    let w := s.cfg.wire
    exec (.clReadAttrRsp r cluster profile seq results) s
      = .next (s.responded ⟨r, cluster, profile, readAttrRspFrame w seq results⟩) ∧
    exec (.clReportAttr r cluster profile seq records) s = .next
      { s with
        seq := s.seq + (if s.txAnswer then 1 else 0)
        txAnswers := s.txAnswers.tail
        freeIdx := s.freeIdx + 1
        trace := s.trace ++ [.transmit ⟨r, cluster, profile, reportFrame w seq records⟩ s.txAnswer]
        ret := ⟨.ok, .reports [(reportFrame w seq records, cluster, s.txAnswer)]⟩ } ∧
    exec (.mgSimpleDescRsp r seq addr len e) s = .next (s.responded
      ⟨r, w.mgSimpleDescRsp, w.mgProfile, [seq, w.stSuccess] ++ le16 addr ++ [len] ++ e.bytes⟩) ∧
    exec (.mgActiveEpRsp r seq addr eps) s = .next (s.responded
      ⟨r, w.mgActiveEpRsp, w.mgProfile,
        [seq, w.stSuccess] ++ le16 addr ++ [BitVec.ofNat 8 eps.length] ++ eps⟩) ∧
    exec (.mgBindRsp r seq) s
      = .next (s.responded ⟨r, w.mgBindRsp, w.mgProfile, [seq, w.stSuccess]⟩) ∧
    exec (.mgUnbindRsp r seq) s
      = .next (s.responded ⟨r, w.mgUnbindRsp, w.mgProfile, [seq, w.stSuccess]⟩)

/-- Each request row that is answered does what its response row does with the route exchanged, an MG one where the
response row's cluster is the request's with bit 15 set, as the defaults have it (R9, R261; log entry 17), and a REPORT of
one group does what CL.REPORT_ATTR does with the current SEQ (R213, R233, R236, R252 to R257; log entry 6). -/
def Obligations.RequestsAnswerByTheirResponseRows : Prop :=
  ∀ (r : Route) (cluster profile addr : Half) (kind seq endpoint : Byte) (args : List Byte) (s : State),
    let w := s.cfg.wire
    (exec (.clReadAttr r cluster profile kind seq args) s
      = exec (.clReadAttrRsp r.reply cluster profile seq ((idsOf args).map (s.attrResult r.dstEp cluster))) s) ∧
    (∀ e, s.cfg.epDesc endpoint = some e → w.mgSimpleDescRsp = w.mgSimpleDescReq ||| 0x8000 →
      exec (.mgSimpleDescReq r seq addr endpoint args) s
        = exec (.mgSimpleDescRsp r.reply seq addr (s.descLenByte e) e) s) ∧
    (w.mgActiveEpRsp = w.mgActiveEpReq ||| 0x8000 → exec (.mgActiveEpReq r seq addr args) s
      = exec (.mgActiveEpRsp r.reply seq addr (s.cfg.epTable.map EpDesc.endpoint)) s) ∧
    (w.mgBindRsp = w.mgBindReq ||| 0x8000 → exec (.mgBindReq r seq args) s = exec (.mgBindRsp r.reply seq) s) ∧
    (w.mgUnbindRsp = w.mgUnbindReq ||| 0x8000 → exec (.mgUnbindReq r seq args) s = exec (.mgUnbindRsp r.reply seq) s) ∧
    ∀ ep ms, s.cfg.hasEndpoint ep = true → groups (s.reportable ep) = [(cluster, ms)] →
      exec (.report ep) s = exec (.clReportAttr ⟨s.cfg.reportDest, ep, s.cfg.reportDstEp⟩ cluster s.cfg.profileId s.seq
        (ms.filterMap s.record)) s

/-! ### System -/

/-- RESET in any state restores the reset state: every element of R42's table, the configuration kept (R42, R265, R302;
D27; the model's own fields are kept, log entry 12). -/
def Obligations.ResetRestoresTheResetState : Prop :=
  ∀ s : State, exec .reset s = .next
    { State.resetWith s.cfg with
      pending := s.pending, txAnswers := s.txAnswers, freeIdx := s.freeIdx
      trace := s.traceGateDown, ret := ⟨.ok, .none⟩ } ∧
    ∀ k r, s.cfg.row k = some r → (State.resetWith s.cfg).value k = r.init

/-- CFG.POLICY writes ALWAYS_PUBLISH and nothing else, in every state; where FIRST_RUN is 0 the next unforced touch of a
known key obeys it (R193, R267; D27). -/
def Obligations.PolicyTakesEffectAtOnce : Prop :=
  ∀ (p : Bool) (s : State),
    exec (.cfgPolicy p) s = .next { s with alwaysPublish := p, ret := ⟨.ok, .none⟩ } ∧
    ∀ (k : Key) (r : AttrRow), s.cfg.row k = some r → s.firstRun = false →
      ∃ t, runOps [.cfgPolicy p, .attrTouch k false] s = .next t ∧ t.ret = ⟨.ok, .marked p⟩
end

