-- ==== Sys2Proof/Laws/Bytes.lean ====
section
/-! SUPPORT. Byte order: `from_le` and `le_N` undo each other (R12, R62), what a numeric value is (R104), when a CL frame is
short (R231), and distinct keys have distinct places. -/

namespace Sys2Proof

@[simp] theorem leN_length (n v : Nat) : (leN n v).length = n := by
  induction n generalizing v with
  | zero => rfl
  | succ n ih => simp [leN, ih]

theorem fromLe_leN (n v : Nat) (h : v < 256 ^ n) : fromLe (leN n v) = v := by
  induction n generalizing v with
  | zero => simp at h; simp [leN, fromLe, h]
  | succ n ih =>
    have h1 : v / 256 < 256 ^ n := Nat.div_lt_of_lt_mul (by rw [pow_succ] at h; omega)
    simp only [leN, fromLe, ih _ h1, BitVec.toNat_ofNat]
    omega

theorem leN_fromLe (s : List Byte) : leN s.length (fromLe s) = s := by
  induction s with
  | nil => rfl
  | cons b s ih =>
    have hb : b.toNat < 256 := b.isLt
    have h1 : (b.toNat + 256 * fromLe s) / 256 = fromLe s := by omega
    simp only [List.length_cons, leN, fromLe, h1, ih, List.cons.injEq, and_true]
    apply BitVec.eq_of_toNat_eq
    rw [BitVec.toNat_ofNat]
    omega

/-- What a numeric value is: `le_N` of an integer that fits the tag's fixed width (R104). -/
theorem Config.numericValue_eq_some {c : Config} {tag : Byte} {x : Nat} {v : List Byte} :
    c.numericValue tag x = some v ↔ ∃ n, c.width tag = .fixed n ∧ x < 256 ^ n ∧ v = leN n x := by
  unfold Config.numericValue
  split
  · rename_i n hw
    simp only [hw, Width.fixed.injEq]
    constructor
    · intro h
      split at h
      · rename_i hx
        cases h
        exact ⟨n, rfl, hx, rfl⟩
      · cases h
    · rintro ⟨_, rfl, hx, rfl⟩
      exact if_pos hx
  · simp_all
  · simp_all

/-- A numeric value is well-formed for its tag, so that ATTR.WR does not refuse it (R103, R192). -/
theorem Config.valueWf_of_numericValue {c : Config} {tag : Byte} {x : Nat} {v : List Byte}
    (h : c.numericValue tag x = some v) : c.valueWf tag v = true := by
  obtain ⟨n, hw, _, rfl⟩ := Config.numericValue_eq_some.mp h
  simp [Config.valueWf, hw]

/-- The integer is read back from its value (R104). -/
theorem Config.fromLe_of_numericValue {c : Config} {tag : Byte} {x : Nat} {v : List Byte}
    (h : c.numericValue tag x = some v) : fromLe v = x := by
  obtain ⟨n, _, hx, rfl⟩ := Config.numericValue_eq_some.mp h
  exact fromLe_leN n x hx

/-- A CL frame with a whole header is short exactly if HDR_LEN asks for more (R231). -/
@[simp] theorem Wire.shortCl_cons (w : Wire) (kind seq cmd : Byte) (args : List Byte) :
    w.shortCl (kind :: seq :: cmd :: args) = decide (args.length + 3 < w.hdrLen) := by
  simp only [Wire.shortCl, List.length_cons, decide_eq_decide]
  omega

@[simp] theorem le16_length (v : Half) : (le16 v).length = 2 := leN_length 2 _

/-- The two bytes of `le16`, named. -/
theorem le16_eq (v : Half) : le16 v = [BitVec.ofNat 8 v.toNat, BitVec.ofNat 8 (v.toNat / 256)] := rfl

theorem word16_le16 (v : Half) : word16 (BitVec.ofNat 8 v.toNat) (BitVec.ofNat 8 (v.toNat / 256)) = v := by
  have h : fromLe (leN 2 v.toNat) = v.toNat := fromLe_leN 2 _ v.isLt
  simp only [leN] at h
  rw [word16, h, BitVec.ofNat_toNat, BitVec.setWidth_eq]

theorem le16_word16 (lo hi : Byte) : le16 (word16 lo hi) = [lo, hi] := by
  have h1 := lo.isLt
  have h2 := hi.isLt
  have h3 : (word16 lo hi).toNat = fromLe [lo, hi] := by
    simp only [word16, fromLe, BitVec.toNat_ofNat]
    omega
  rw [le16, h3]
  exact leN_fromLe [lo, hi]

theorem Key.addr_inj {k l : Key} (h : k.addr = l.addr) : k = l := by
  obtain ⟨e1, c1, i1⟩ := k
  obtain ⟨e2, c2, i2⟩ := l
  have := c1.isLt
  have := c2.isLt
  have := i1.isLt
  have := i2.isLt
  simp only [Key.addr] at h
  simp only [Key.mk.injEq]
  refine ⟨BitVec.eq_of_toNat_eq ?_, BitVec.eq_of_toNat_eq ?_, BitVec.eq_of_toNat_eq ?_⟩ <;> omega

theorem Config.row_key {c : Config} {k : Key} {r : AttrRow} (h : c.row k = some r) : r.key = k := by
  have := List.find?_some h
  simpa using this

theorem Config.row_mem {c : Config} {k : Key} {r : AttrRow} (h : c.row k = some r) : r ∈ c.attrTable :=
  List.mem_of_find?_eq_some h

end Sys2Proof
end

