-- ==== Sys2Proof/Laws/Checksum.lean ====
section
/-! SUPPORT. The printed table is the one the construction of R61 gives. -/

namespace Sys2Proof.Machine

/-- R61: "A model may hold the 256 literals or the construction; the two must agree". -/
theorem crcTab_eq_construction : crcTab = (List.range 256).map (fun i => crcShift8 (BitVec.ofNat 16 i)) := by
  decide +kernel

theorem crcEntry_eq (b : Byte) : crcEntry b = crcShift8 (b.setWidth 16) := by
  have h : b.toNat < 256 := b.isLt
  rw [crcEntry, crcTab_eq_construction, List.getD_eq_getElem?_getD, List.getElem?_map,
    List.getElem?_range h, Option.map_some, Option.getD_some]
  rw [BitVec.ofNat_toNat]

/-- `crc16` goes on from where it stopped (R136 (c)). -/
theorem crc16_append (a b : List Byte) : crc16 (a ++ b) = b.foldl crcStep (crc16 a) := List.foldl_append

end Sys2Proof.Machine
end

