-- ==== Sys2Proof/Laws/Sparse.lean ====
section
/-! SUPPORT. Sparse data: reading back what was listed, and the canonical order. -/

namespace Sys2Proof

variable {α : Type}

theorem Sparse.find_insert_self (m : Sparse α) (k : Nat) (v : α) : Sparse.find (Sparse.insert m k v) k = some v := by
  induction m with
  | nil => simp [Sparse.insert, Sparse.find]
  | cons p m ih =>
    obtain ⟨a, w⟩ := p
    simp only [Sparse.insert]
    split
    · simp [Sparse.find]
    · split
      · simp [Sparse.find]
      · rename_i h1 h2
        simp [Sparse.find, Ne.symm h2, ih]

theorem Sparse.find_insert_other (m : Sparse α) {k l : Nat} (v : α) (h : l ≠ k) :
    Sparse.find (Sparse.insert m k v) l = Sparse.find m l := by
  induction m with
  | nil => simp [Sparse.insert, Sparse.find, Ne.symm h]
  | cons p m ih =>
    obtain ⟨a, w⟩ := p
    simp only [Sparse.insert]
    split
    · simp [Sparse.find, Ne.symm h]
    · split
      · rename_i h1 h2
        subst h2
        simp [Sparse.find, Ne.symm h]
      · simp [Sparse.find, ih]

theorem Sparse.mem_insert {m : Sparse α} {k : Nat} {v : α} {p : Nat × α} (h : p ∈ Sparse.insert m k v) :
    p = (k, v) ∨ p ∈ m := by
  induction m with
  | nil => simpa [Sparse.insert] using h
  | cons q m ih =>
    obtain ⟨a, w⟩ := q
    simp only [Sparse.insert] at h
    split at h
    · simpa using h
    · split at h
      · rcases List.mem_cons.1 h with h | h
        · exact .inl h
        · exact .inr (List.mem_cons_of_mem _ h)
      · rcases List.mem_cons.1 h with h | h
        · exact .inr (h ▸ List.mem_cons_self)
        · rcases ih h with h | h
          · exact .inl h
          · exact .inr (List.mem_cons_of_mem _ h)

theorem Sparse.mem_erase {m : Sparse α} {k : Nat} {p : Nat × α} (h : p ∈ Sparse.erase m k) : p ∈ m := by
  induction m with
  | nil => simp [Sparse.erase] at h
  | cons q m ih =>
    simp only [Sparse.erase] at h
    split at h
    · exact List.mem_cons_of_mem _ h
    · rcases List.mem_cons.1 h with h | h
      · exact h ▸ List.mem_cons_self
      · exact List.mem_cons_of_mem _ (ih h)

theorem Sparse.sorted_insert {m : Sparse α} (h : Sparse.Sorted m) (k : Nat) (v : α) :
    Sparse.Sorted (Sparse.insert m k v) := by
  induction m with
  | nil => simp [Sparse.insert]
  | cons q m ih =>
    obtain ⟨a, w⟩ := q
    obtain ⟨h1, h2⟩ := List.pairwise_cons.1 h
    simp only [Sparse.insert]
    split
    · rename_i hk
      refine List.pairwise_cons.2 ⟨fun p hp => ?_, h⟩
      rcases List.mem_cons.1 hp with rfl | hp
      · exact hk
      · exact lt_trans hk (h1 p hp)
    · split
      · rename_i _ hk
        exact List.pairwise_cons.2 ⟨fun p hp => hk ▸ h1 p hp, h2⟩
      · rename_i h3 h4
        refine List.pairwise_cons.2 ⟨fun p hp => ?_, ih h2⟩
        rcases Sparse.mem_insert hp with rfl | hp
        · show a < k
          omega
        · exact h1 p hp

theorem Sparse.sorted_erase {m : Sparse α} (h : Sparse.Sorted m) (k : Nat) : Sparse.Sorted (Sparse.erase m k) := by
  induction m with
  | nil => simp [Sparse.erase]
  | cons q m ih =>
    obtain ⟨h1, h2⟩ := List.pairwise_cons.1 h
    simp only [Sparse.erase]
    split
    · exact h2
    · exact List.pairwise_cons.2 ⟨fun p hp => h1 p (Sparse.mem_erase hp), ih h2⟩

theorem Sparse.find_eq_none_of_lt {m : Sparse α} {k : Nat} (h : ∀ p ∈ m, k < p.1) : Sparse.find m k = none := by
  induction m with
  | nil => rfl
  | cons q m ih =>
    obtain ⟨a, w⟩ := q
    have ha : k < a := h (a, w) List.mem_cons_self
    simp only [Sparse.find, if_neg (Nat.ne_of_gt ha)]
    exact ih fun p hp => h p (List.mem_cons_of_mem _ hp)

theorem Sparse.find_erase_self {m : Sparse α} (h : Sparse.Sorted m) (k : Nat) : Sparse.find (Sparse.erase m k) k = none := by
  induction m with
  | nil => rfl
  | cons q m ih =>
    obtain ⟨a, w⟩ := q
    obtain ⟨h1, h2⟩ := List.pairwise_cons.1 h
    simp only [Sparse.erase]
    split
    · rename_i hk
      exact Sparse.find_eq_none_of_lt fun p hp => hk ▸ h1 p hp
    · rename_i hk
      simpa [Sparse.find, hk] using ih h2

theorem Sparse.find_erase_other (m : Sparse α) {k l : Nat} (h : l ≠ k) :
    Sparse.find (Sparse.erase m k) l = Sparse.find m l := by
  induction m with
  | nil => rfl
  | cons q m ih =>
    obtain ⟨a, w⟩ := q
    simp only [Sparse.erase]
    split
    · rename_i hk
      subst hk
      simp [Sparse.find, Ne.symm h]
    · simp [Sparse.find, ih]

theorem Sparse.mem_of_find {m : Sparse α} {k : Nat} {v : α} (h : Sparse.find m k = some v) : (k, v) ∈ m := by
  induction m with
  | nil => simp [Sparse.find] at h
  | cons q m ih =>
    obtain ⟨a, w⟩ := q
    simp only [Sparse.find] at h
    split at h
    · rename_i hk
      cases h
      exact hk ▸ List.mem_cons_self
    · exact List.mem_cons_of_mem _ (ih h)

end Sys2Proof
end

