-- ==== Sys2Proof/Laws/State.lean ====
section
/-! SUPPORT. What each register update does to each field. -/

namespace Sys2Proof.Machine

variable (s : State)

@[simp] theorem State.setCrc_crc (v : Half) : (s.setCrc v).crc = v := rfl
@[simp] theorem State.setCrc_fstate (v : Half) : (s.setCrc v).fstate = s.fstate := rfl
@[simp] theorem State.setCrc_polls (v : Half) : (s.setCrc v).polls = s.polls := rfl
@[simp] theorem State.setCrc_tbuf (v : Half) : (s.setCrc v).tbuf = s.tbuf := rfl
@[simp] theorem State.setCrc_bang (v : Half) : (s.setCrc v).bang = s.bang := rfl
@[simp] theorem State.setCrc_gate (v : Half) : (s.setCrc v).gate = s.gate := rfl
@[simp] theorem State.setCrc_err (v : Half) : (s.setCrc v).err = s.err := rfl
@[simp] theorem State.setCrc_seq (v : Half) : (s.setCrc v).seq = s.seq := rfl
@[simp] theorem State.setCrc_firstRun (v : Half) : (s.setCrc v).firstRun = s.firstRun := rfl
@[simp] theorem State.setCrc_alwaysPublish (v : Half) : (s.setCrc v).alwaysPublish = s.alwaysPublish := rfl
@[simp] theorem State.setCrc_store (v : Half) : (s.setCrc v).store = s.store := rfl
@[simp] theorem State.setCrc_dirty (v : Half) : (s.setCrc v).dirty = s.dirty := rfl
@[simp] theorem State.setCrc_peer (v : Half) : (s.setCrc v).peer = s.peer := rfl
@[simp] theorem State.setCrc_cfg (v : Half) : (s.setCrc v).cfg = s.cfg := rfl
@[simp] theorem State.setCrc_pending (v : Half) : (s.setCrc v).pending = s.pending := rfl
@[simp] theorem State.setCrc_txAnswers (v : Half) : (s.setCrc v).txAnswers = s.txAnswers := rfl
@[simp] theorem State.setCrc_freeIdx (v : Half) : (s.setCrc v).freeIdx = s.freeIdx := rfl
@[simp] theorem State.setCrc_trace (v : Half) : (s.setCrc v).trace = s.trace := rfl
@[simp] theorem State.setCrc_ret (v : Half) : (s.setCrc v).ret = s.ret := rfl

@[simp] theorem State.setFramer_crc (f : FState) (n : Nat) (b : List Byte) (j : Option Nat) : (s.setFramer f n b j).crc = s.crc := rfl
@[simp] theorem State.setFramer_fstate (f : FState) (n : Nat) (b : List Byte) (j : Option Nat) : (s.setFramer f n b j).fstate = f := rfl
@[simp] theorem State.setFramer_polls (f : FState) (n : Nat) (b : List Byte) (j : Option Nat) : (s.setFramer f n b j).polls = n := rfl
@[simp] theorem State.setFramer_tbuf (f : FState) (n : Nat) (b : List Byte) (j : Option Nat) : (s.setFramer f n b j).tbuf = b := rfl
@[simp] theorem State.setFramer_bang (f : FState) (n : Nat) (b : List Byte) (j : Option Nat) : (s.setFramer f n b j).bang = j := rfl
@[simp] theorem State.setFramer_gate (f : FState) (n : Nat) (b : List Byte) (j : Option Nat) : (s.setFramer f n b j).gate = s.gate := rfl
@[simp] theorem State.setFramer_err (f : FState) (n : Nat) (b : List Byte) (j : Option Nat) : (s.setFramer f n b j).err = s.err := rfl
@[simp] theorem State.setFramer_seq (f : FState) (n : Nat) (b : List Byte) (j : Option Nat) : (s.setFramer f n b j).seq = s.seq := rfl
@[simp] theorem State.setFramer_firstRun (f : FState) (n : Nat) (b : List Byte) (j : Option Nat) : (s.setFramer f n b j).firstRun = s.firstRun := rfl
@[simp] theorem State.setFramer_alwaysPublish (f : FState) (n : Nat) (b : List Byte) (j : Option Nat) : (s.setFramer f n b j).alwaysPublish = s.alwaysPublish := rfl
@[simp] theorem State.setFramer_store (f : FState) (n : Nat) (b : List Byte) (j : Option Nat) : (s.setFramer f n b j).store = s.store := rfl
@[simp] theorem State.setFramer_dirty (f : FState) (n : Nat) (b : List Byte) (j : Option Nat) : (s.setFramer f n b j).dirty = s.dirty := rfl
@[simp] theorem State.setFramer_peer (f : FState) (n : Nat) (b : List Byte) (j : Option Nat) : (s.setFramer f n b j).peer = s.peer := rfl
@[simp] theorem State.setFramer_cfg (f : FState) (n : Nat) (b : List Byte) (j : Option Nat) : (s.setFramer f n b j).cfg = s.cfg := rfl
@[simp] theorem State.setFramer_pending (f : FState) (n : Nat) (b : List Byte) (j : Option Nat) : (s.setFramer f n b j).pending = s.pending := rfl
@[simp] theorem State.setFramer_txAnswers (f : FState) (n : Nat) (b : List Byte) (j : Option Nat) : (s.setFramer f n b j).txAnswers = s.txAnswers := rfl
@[simp] theorem State.setFramer_freeIdx (f : FState) (n : Nat) (b : List Byte) (j : Option Nat) : (s.setFramer f n b j).freeIdx = s.freeIdx := rfl
@[simp] theorem State.setFramer_trace (f : FState) (n : Nat) (b : List Byte) (j : Option Nat) : (s.setFramer f n b j).trace = s.trace := rfl
@[simp] theorem State.setFramer_ret (f : FState) (n : Nat) (b : List Byte) (j : Option Nat) : (s.setFramer f n b j).ret = s.ret := rfl

@[simp] theorem State.setGate_crc (b : Bool) : (s.setGate b).crc = s.crc := rfl
@[simp] theorem State.setGate_fstate (b : Bool) : (s.setGate b).fstate = s.fstate := rfl
@[simp] theorem State.setGate_polls (b : Bool) : (s.setGate b).polls = s.polls := rfl
@[simp] theorem State.setGate_tbuf (b : Bool) : (s.setGate b).tbuf = s.tbuf := rfl
@[simp] theorem State.setGate_bang (b : Bool) : (s.setGate b).bang = s.bang := rfl
@[simp] theorem State.setGate_gate (b : Bool) : (s.setGate b).gate = b := rfl
@[simp] theorem State.setGate_err (b : Bool) : (s.setGate b).err = s.err := rfl
@[simp] theorem State.setGate_seq (b : Bool) : (s.setGate b).seq = s.seq := rfl
@[simp] theorem State.setGate_firstRun (b : Bool) : (s.setGate b).firstRun = s.firstRun := rfl
@[simp] theorem State.setGate_alwaysPublish (b : Bool) : (s.setGate b).alwaysPublish = s.alwaysPublish := rfl
@[simp] theorem State.setGate_store (b : Bool) : (s.setGate b).store = s.store := rfl
@[simp] theorem State.setGate_dirty (b : Bool) : (s.setGate b).dirty = s.dirty := rfl
@[simp] theorem State.setGate_peer (b : Bool) : (s.setGate b).peer = s.peer := rfl
@[simp] theorem State.setGate_cfg (b : Bool) : (s.setGate b).cfg = s.cfg := rfl
@[simp] theorem State.setGate_pending (b : Bool) : (s.setGate b).pending = s.pending := rfl
@[simp] theorem State.setGate_txAnswers (b : Bool) : (s.setGate b).txAnswers = s.txAnswers := rfl
@[simp] theorem State.setGate_freeIdx (b : Bool) : (s.setGate b).freeIdx = s.freeIdx := rfl
@[simp] theorem State.setGate_trace (b : Bool) : (s.setGate b).trace = s.trace := rfl
@[simp] theorem State.setGate_ret (b : Bool) : (s.setGate b).ret = s.ret := rfl

@[simp] theorem State.setErr_crc (e : BitVec 3) : (s.setErr e).crc = s.crc := rfl
@[simp] theorem State.setErr_fstate (e : BitVec 3) : (s.setErr e).fstate = s.fstate := rfl
@[simp] theorem State.setErr_polls (e : BitVec 3) : (s.setErr e).polls = s.polls := rfl
@[simp] theorem State.setErr_tbuf (e : BitVec 3) : (s.setErr e).tbuf = s.tbuf := rfl
@[simp] theorem State.setErr_bang (e : BitVec 3) : (s.setErr e).bang = s.bang := rfl
@[simp] theorem State.setErr_gate (e : BitVec 3) : (s.setErr e).gate = s.gate := rfl
@[simp] theorem State.setErr_err (e : BitVec 3) : (s.setErr e).err = e := rfl
@[simp] theorem State.setErr_seq (e : BitVec 3) : (s.setErr e).seq = s.seq := rfl
@[simp] theorem State.setErr_firstRun (e : BitVec 3) : (s.setErr e).firstRun = s.firstRun := rfl
@[simp] theorem State.setErr_alwaysPublish (e : BitVec 3) : (s.setErr e).alwaysPublish = s.alwaysPublish := rfl
@[simp] theorem State.setErr_store (e : BitVec 3) : (s.setErr e).store = s.store := rfl
@[simp] theorem State.setErr_dirty (e : BitVec 3) : (s.setErr e).dirty = s.dirty := rfl
@[simp] theorem State.setErr_peer (e : BitVec 3) : (s.setErr e).peer = s.peer := rfl
@[simp] theorem State.setErr_cfg (e : BitVec 3) : (s.setErr e).cfg = s.cfg := rfl
@[simp] theorem State.setErr_pending (e : BitVec 3) : (s.setErr e).pending = s.pending := rfl
@[simp] theorem State.setErr_txAnswers (e : BitVec 3) : (s.setErr e).txAnswers = s.txAnswers := rfl
@[simp] theorem State.setErr_freeIdx (e : BitVec 3) : (s.setErr e).freeIdx = s.freeIdx := rfl
@[simp] theorem State.setErr_trace (e : BitVec 3) : (s.setErr e).trace = s.trace := rfl
@[simp] theorem State.setErr_ret (e : BitVec 3) : (s.setErr e).ret = s.ret := rfl

@[simp] theorem State.setSeq_crc (v : Byte) : (s.setSeq v).crc = s.crc := rfl
@[simp] theorem State.setSeq_fstate (v : Byte) : (s.setSeq v).fstate = s.fstate := rfl
@[simp] theorem State.setSeq_polls (v : Byte) : (s.setSeq v).polls = s.polls := rfl
@[simp] theorem State.setSeq_tbuf (v : Byte) : (s.setSeq v).tbuf = s.tbuf := rfl
@[simp] theorem State.setSeq_bang (v : Byte) : (s.setSeq v).bang = s.bang := rfl
@[simp] theorem State.setSeq_gate (v : Byte) : (s.setSeq v).gate = s.gate := rfl
@[simp] theorem State.setSeq_err (v : Byte) : (s.setSeq v).err = s.err := rfl
@[simp] theorem State.setSeq_seq (v : Byte) : (s.setSeq v).seq = v := rfl
@[simp] theorem State.setSeq_firstRun (v : Byte) : (s.setSeq v).firstRun = s.firstRun := rfl
@[simp] theorem State.setSeq_alwaysPublish (v : Byte) : (s.setSeq v).alwaysPublish = s.alwaysPublish := rfl
@[simp] theorem State.setSeq_store (v : Byte) : (s.setSeq v).store = s.store := rfl
@[simp] theorem State.setSeq_dirty (v : Byte) : (s.setSeq v).dirty = s.dirty := rfl
@[simp] theorem State.setSeq_peer (v : Byte) : (s.setSeq v).peer = s.peer := rfl
@[simp] theorem State.setSeq_cfg (v : Byte) : (s.setSeq v).cfg = s.cfg := rfl
@[simp] theorem State.setSeq_pending (v : Byte) : (s.setSeq v).pending = s.pending := rfl
@[simp] theorem State.setSeq_txAnswers (v : Byte) : (s.setSeq v).txAnswers = s.txAnswers := rfl
@[simp] theorem State.setSeq_freeIdx (v : Byte) : (s.setSeq v).freeIdx = s.freeIdx := rfl
@[simp] theorem State.setSeq_trace (v : Byte) : (s.setSeq v).trace = s.trace := rfl
@[simp] theorem State.setSeq_ret (v : Byte) : (s.setSeq v).ret = s.ret := rfl

@[simp] theorem State.setFirstRun_crc (b : Bool) : (s.setFirstRun b).crc = s.crc := rfl
@[simp] theorem State.setFirstRun_fstate (b : Bool) : (s.setFirstRun b).fstate = s.fstate := rfl
@[simp] theorem State.setFirstRun_polls (b : Bool) : (s.setFirstRun b).polls = s.polls := rfl
@[simp] theorem State.setFirstRun_tbuf (b : Bool) : (s.setFirstRun b).tbuf = s.tbuf := rfl
@[simp] theorem State.setFirstRun_bang (b : Bool) : (s.setFirstRun b).bang = s.bang := rfl
@[simp] theorem State.setFirstRun_gate (b : Bool) : (s.setFirstRun b).gate = s.gate := rfl
@[simp] theorem State.setFirstRun_err (b : Bool) : (s.setFirstRun b).err = s.err := rfl
@[simp] theorem State.setFirstRun_seq (b : Bool) : (s.setFirstRun b).seq = s.seq := rfl
@[simp] theorem State.setFirstRun_firstRun (b : Bool) : (s.setFirstRun b).firstRun = b := rfl
@[simp] theorem State.setFirstRun_alwaysPublish (b : Bool) : (s.setFirstRun b).alwaysPublish = s.alwaysPublish := rfl
@[simp] theorem State.setFirstRun_store (b : Bool) : (s.setFirstRun b).store = s.store := rfl
@[simp] theorem State.setFirstRun_dirty (b : Bool) : (s.setFirstRun b).dirty = s.dirty := rfl
@[simp] theorem State.setFirstRun_peer (b : Bool) : (s.setFirstRun b).peer = s.peer := rfl
@[simp] theorem State.setFirstRun_cfg (b : Bool) : (s.setFirstRun b).cfg = s.cfg := rfl
@[simp] theorem State.setFirstRun_pending (b : Bool) : (s.setFirstRun b).pending = s.pending := rfl
@[simp] theorem State.setFirstRun_txAnswers (b : Bool) : (s.setFirstRun b).txAnswers = s.txAnswers := rfl
@[simp] theorem State.setFirstRun_freeIdx (b : Bool) : (s.setFirstRun b).freeIdx = s.freeIdx := rfl
@[simp] theorem State.setFirstRun_trace (b : Bool) : (s.setFirstRun b).trace = s.trace := rfl
@[simp] theorem State.setFirstRun_ret (b : Bool) : (s.setFirstRun b).ret = s.ret := rfl

@[simp] theorem State.setAlwaysPublish_crc (b : Bool) : (s.setAlwaysPublish b).crc = s.crc := rfl
@[simp] theorem State.setAlwaysPublish_fstate (b : Bool) : (s.setAlwaysPublish b).fstate = s.fstate := rfl
@[simp] theorem State.setAlwaysPublish_polls (b : Bool) : (s.setAlwaysPublish b).polls = s.polls := rfl
@[simp] theorem State.setAlwaysPublish_tbuf (b : Bool) : (s.setAlwaysPublish b).tbuf = s.tbuf := rfl
@[simp] theorem State.setAlwaysPublish_bang (b : Bool) : (s.setAlwaysPublish b).bang = s.bang := rfl
@[simp] theorem State.setAlwaysPublish_gate (b : Bool) : (s.setAlwaysPublish b).gate = s.gate := rfl
@[simp] theorem State.setAlwaysPublish_err (b : Bool) : (s.setAlwaysPublish b).err = s.err := rfl
@[simp] theorem State.setAlwaysPublish_seq (b : Bool) : (s.setAlwaysPublish b).seq = s.seq := rfl
@[simp] theorem State.setAlwaysPublish_firstRun (b : Bool) : (s.setAlwaysPublish b).firstRun = s.firstRun := rfl
@[simp] theorem State.setAlwaysPublish_alwaysPublish (b : Bool) : (s.setAlwaysPublish b).alwaysPublish = b := rfl
@[simp] theorem State.setAlwaysPublish_store (b : Bool) : (s.setAlwaysPublish b).store = s.store := rfl
@[simp] theorem State.setAlwaysPublish_dirty (b : Bool) : (s.setAlwaysPublish b).dirty = s.dirty := rfl
@[simp] theorem State.setAlwaysPublish_peer (b : Bool) : (s.setAlwaysPublish b).peer = s.peer := rfl
@[simp] theorem State.setAlwaysPublish_cfg (b : Bool) : (s.setAlwaysPublish b).cfg = s.cfg := rfl
@[simp] theorem State.setAlwaysPublish_pending (b : Bool) : (s.setAlwaysPublish b).pending = s.pending := rfl
@[simp] theorem State.setAlwaysPublish_txAnswers (b : Bool) : (s.setAlwaysPublish b).txAnswers = s.txAnswers := rfl
@[simp] theorem State.setAlwaysPublish_freeIdx (b : Bool) : (s.setAlwaysPublish b).freeIdx = s.freeIdx := rfl
@[simp] theorem State.setAlwaysPublish_trace (b : Bool) : (s.setAlwaysPublish b).trace = s.trace := rfl
@[simp] theorem State.setAlwaysPublish_ret (b : Bool) : (s.setAlwaysPublish b).ret = s.ret := rfl

@[simp] theorem State.setStore_crc (m : Sparse (List Byte)) : (s.setStore m).crc = s.crc := rfl
@[simp] theorem State.setStore_fstate (m : Sparse (List Byte)) : (s.setStore m).fstate = s.fstate := rfl
@[simp] theorem State.setStore_polls (m : Sparse (List Byte)) : (s.setStore m).polls = s.polls := rfl
@[simp] theorem State.setStore_tbuf (m : Sparse (List Byte)) : (s.setStore m).tbuf = s.tbuf := rfl
@[simp] theorem State.setStore_bang (m : Sparse (List Byte)) : (s.setStore m).bang = s.bang := rfl
@[simp] theorem State.setStore_gate (m : Sparse (List Byte)) : (s.setStore m).gate = s.gate := rfl
@[simp] theorem State.setStore_err (m : Sparse (List Byte)) : (s.setStore m).err = s.err := rfl
@[simp] theorem State.setStore_seq (m : Sparse (List Byte)) : (s.setStore m).seq = s.seq := rfl
@[simp] theorem State.setStore_firstRun (m : Sparse (List Byte)) : (s.setStore m).firstRun = s.firstRun := rfl
@[simp] theorem State.setStore_alwaysPublish (m : Sparse (List Byte)) : (s.setStore m).alwaysPublish = s.alwaysPublish := rfl
@[simp] theorem State.setStore_store (m : Sparse (List Byte)) : (s.setStore m).store = m := rfl
@[simp] theorem State.setStore_dirty (m : Sparse (List Byte)) : (s.setStore m).dirty = s.dirty := rfl
@[simp] theorem State.setStore_peer (m : Sparse (List Byte)) : (s.setStore m).peer = s.peer := rfl
@[simp] theorem State.setStore_cfg (m : Sparse (List Byte)) : (s.setStore m).cfg = s.cfg := rfl
@[simp] theorem State.setStore_pending (m : Sparse (List Byte)) : (s.setStore m).pending = s.pending := rfl
@[simp] theorem State.setStore_txAnswers (m : Sparse (List Byte)) : (s.setStore m).txAnswers = s.txAnswers := rfl
@[simp] theorem State.setStore_freeIdx (m : Sparse (List Byte)) : (s.setStore m).freeIdx = s.freeIdx := rfl
@[simp] theorem State.setStore_trace (m : Sparse (List Byte)) : (s.setStore m).trace = s.trace := rfl
@[simp] theorem State.setStore_ret (m : Sparse (List Byte)) : (s.setStore m).ret = s.ret := rfl

@[simp] theorem State.setDirty_crc (m : Sparse (List Key)) : (s.setDirty m).crc = s.crc := rfl
@[simp] theorem State.setDirty_fstate (m : Sparse (List Key)) : (s.setDirty m).fstate = s.fstate := rfl
@[simp] theorem State.setDirty_polls (m : Sparse (List Key)) : (s.setDirty m).polls = s.polls := rfl
@[simp] theorem State.setDirty_tbuf (m : Sparse (List Key)) : (s.setDirty m).tbuf = s.tbuf := rfl
@[simp] theorem State.setDirty_bang (m : Sparse (List Key)) : (s.setDirty m).bang = s.bang := rfl
@[simp] theorem State.setDirty_gate (m : Sparse (List Key)) : (s.setDirty m).gate = s.gate := rfl
@[simp] theorem State.setDirty_err (m : Sparse (List Key)) : (s.setDirty m).err = s.err := rfl
@[simp] theorem State.setDirty_seq (m : Sparse (List Key)) : (s.setDirty m).seq = s.seq := rfl
@[simp] theorem State.setDirty_firstRun (m : Sparse (List Key)) : (s.setDirty m).firstRun = s.firstRun := rfl
@[simp] theorem State.setDirty_alwaysPublish (m : Sparse (List Key)) : (s.setDirty m).alwaysPublish = s.alwaysPublish := rfl
@[simp] theorem State.setDirty_store (m : Sparse (List Key)) : (s.setDirty m).store = s.store := rfl
@[simp] theorem State.setDirty_dirty (m : Sparse (List Key)) : (s.setDirty m).dirty = m := rfl
@[simp] theorem State.setDirty_peer (m : Sparse (List Key)) : (s.setDirty m).peer = s.peer := rfl
@[simp] theorem State.setDirty_cfg (m : Sparse (List Key)) : (s.setDirty m).cfg = s.cfg := rfl
@[simp] theorem State.setDirty_pending (m : Sparse (List Key)) : (s.setDirty m).pending = s.pending := rfl
@[simp] theorem State.setDirty_txAnswers (m : Sparse (List Key)) : (s.setDirty m).txAnswers = s.txAnswers := rfl
@[simp] theorem State.setDirty_freeIdx (m : Sparse (List Key)) : (s.setDirty m).freeIdx = s.freeIdx := rfl
@[simp] theorem State.setDirty_trace (m : Sparse (List Key)) : (s.setDirty m).trace = s.trace := rfl
@[simp] theorem State.setDirty_ret (m : Sparse (List Key)) : (s.setDirty m).ret = s.ret := rfl

@[simp] theorem State.setPeer_crc (p : Option PeerAddr) : (s.setPeer p).crc = s.crc := rfl
@[simp] theorem State.setPeer_fstate (p : Option PeerAddr) : (s.setPeer p).fstate = s.fstate := rfl
@[simp] theorem State.setPeer_polls (p : Option PeerAddr) : (s.setPeer p).polls = s.polls := rfl
@[simp] theorem State.setPeer_tbuf (p : Option PeerAddr) : (s.setPeer p).tbuf = s.tbuf := rfl
@[simp] theorem State.setPeer_bang (p : Option PeerAddr) : (s.setPeer p).bang = s.bang := rfl
@[simp] theorem State.setPeer_gate (p : Option PeerAddr) : (s.setPeer p).gate = s.gate := rfl
@[simp] theorem State.setPeer_err (p : Option PeerAddr) : (s.setPeer p).err = s.err := rfl
@[simp] theorem State.setPeer_seq (p : Option PeerAddr) : (s.setPeer p).seq = s.seq := rfl
@[simp] theorem State.setPeer_firstRun (p : Option PeerAddr) : (s.setPeer p).firstRun = s.firstRun := rfl
@[simp] theorem State.setPeer_alwaysPublish (p : Option PeerAddr) : (s.setPeer p).alwaysPublish = s.alwaysPublish := rfl
@[simp] theorem State.setPeer_store (p : Option PeerAddr) : (s.setPeer p).store = s.store := rfl
@[simp] theorem State.setPeer_dirty (p : Option PeerAddr) : (s.setPeer p).dirty = s.dirty := rfl
@[simp] theorem State.setPeer_peer (p : Option PeerAddr) : (s.setPeer p).peer = p := rfl
@[simp] theorem State.setPeer_cfg (p : Option PeerAddr) : (s.setPeer p).cfg = s.cfg := rfl
@[simp] theorem State.setPeer_pending (p : Option PeerAddr) : (s.setPeer p).pending = s.pending := rfl
@[simp] theorem State.setPeer_txAnswers (p : Option PeerAddr) : (s.setPeer p).txAnswers = s.txAnswers := rfl
@[simp] theorem State.setPeer_freeIdx (p : Option PeerAddr) : (s.setPeer p).freeIdx = s.freeIdx := rfl
@[simp] theorem State.setPeer_trace (p : Option PeerAddr) : (s.setPeer p).trace = s.trace := rfl
@[simp] theorem State.setPeer_ret (p : Option PeerAddr) : (s.setPeer p).ret = s.ret := rfl

@[simp] theorem State.setPending_crc (l : List Input) : (s.setPending l).crc = s.crc := rfl
@[simp] theorem State.setPending_fstate (l : List Input) : (s.setPending l).fstate = s.fstate := rfl
@[simp] theorem State.setPending_polls (l : List Input) : (s.setPending l).polls = s.polls := rfl
@[simp] theorem State.setPending_tbuf (l : List Input) : (s.setPending l).tbuf = s.tbuf := rfl
@[simp] theorem State.setPending_bang (l : List Input) : (s.setPending l).bang = s.bang := rfl
@[simp] theorem State.setPending_gate (l : List Input) : (s.setPending l).gate = s.gate := rfl
@[simp] theorem State.setPending_err (l : List Input) : (s.setPending l).err = s.err := rfl
@[simp] theorem State.setPending_seq (l : List Input) : (s.setPending l).seq = s.seq := rfl
@[simp] theorem State.setPending_firstRun (l : List Input) : (s.setPending l).firstRun = s.firstRun := rfl
@[simp] theorem State.setPending_alwaysPublish (l : List Input) : (s.setPending l).alwaysPublish = s.alwaysPublish := rfl
@[simp] theorem State.setPending_store (l : List Input) : (s.setPending l).store = s.store := rfl
@[simp] theorem State.setPending_dirty (l : List Input) : (s.setPending l).dirty = s.dirty := rfl
@[simp] theorem State.setPending_peer (l : List Input) : (s.setPending l).peer = s.peer := rfl
@[simp] theorem State.setPending_cfg (l : List Input) : (s.setPending l).cfg = s.cfg := rfl
@[simp] theorem State.setPending_pending (l : List Input) : (s.setPending l).pending = l := rfl
@[simp] theorem State.setPending_txAnswers (l : List Input) : (s.setPending l).txAnswers = s.txAnswers := rfl
@[simp] theorem State.setPending_freeIdx (l : List Input) : (s.setPending l).freeIdx = s.freeIdx := rfl
@[simp] theorem State.setPending_trace (l : List Input) : (s.setPending l).trace = s.trace := rfl
@[simp] theorem State.setPending_ret (l : List Input) : (s.setPending l).ret = s.ret := rfl

@[simp] theorem State.setOracle_crc (l : List Bool) (n : Nat) : (s.setOracle l n).crc = s.crc := rfl
@[simp] theorem State.setOracle_fstate (l : List Bool) (n : Nat) : (s.setOracle l n).fstate = s.fstate := rfl
@[simp] theorem State.setOracle_polls (l : List Bool) (n : Nat) : (s.setOracle l n).polls = s.polls := rfl
@[simp] theorem State.setOracle_tbuf (l : List Bool) (n : Nat) : (s.setOracle l n).tbuf = s.tbuf := rfl
@[simp] theorem State.setOracle_bang (l : List Bool) (n : Nat) : (s.setOracle l n).bang = s.bang := rfl
@[simp] theorem State.setOracle_gate (l : List Bool) (n : Nat) : (s.setOracle l n).gate = s.gate := rfl
@[simp] theorem State.setOracle_err (l : List Bool) (n : Nat) : (s.setOracle l n).err = s.err := rfl
@[simp] theorem State.setOracle_seq (l : List Bool) (n : Nat) : (s.setOracle l n).seq = s.seq := rfl
@[simp] theorem State.setOracle_firstRun (l : List Bool) (n : Nat) : (s.setOracle l n).firstRun = s.firstRun := rfl
@[simp] theorem State.setOracle_alwaysPublish (l : List Bool) (n : Nat) : (s.setOracle l n).alwaysPublish = s.alwaysPublish := rfl
@[simp] theorem State.setOracle_store (l : List Bool) (n : Nat) : (s.setOracle l n).store = s.store := rfl
@[simp] theorem State.setOracle_dirty (l : List Bool) (n : Nat) : (s.setOracle l n).dirty = s.dirty := rfl
@[simp] theorem State.setOracle_peer (l : List Bool) (n : Nat) : (s.setOracle l n).peer = s.peer := rfl
@[simp] theorem State.setOracle_cfg (l : List Bool) (n : Nat) : (s.setOracle l n).cfg = s.cfg := rfl
@[simp] theorem State.setOracle_pending (l : List Bool) (n : Nat) : (s.setOracle l n).pending = s.pending := rfl
@[simp] theorem State.setOracle_txAnswers (l : List Bool) (n : Nat) : (s.setOracle l n).txAnswers = l := rfl
@[simp] theorem State.setOracle_freeIdx (l : List Bool) (n : Nat) : (s.setOracle l n).freeIdx = n := rfl
@[simp] theorem State.setOracle_trace (l : List Bool) (n : Nat) : (s.setOracle l n).trace = s.trace := rfl
@[simp] theorem State.setOracle_ret (l : List Bool) (n : Nat) : (s.setOracle l n).ret = s.ret := rfl

@[simp] theorem State.setTrace_crc (l : List OutEvent) : (s.setTrace l).crc = s.crc := rfl
@[simp] theorem State.setTrace_fstate (l : List OutEvent) : (s.setTrace l).fstate = s.fstate := rfl
@[simp] theorem State.setTrace_polls (l : List OutEvent) : (s.setTrace l).polls = s.polls := rfl
@[simp] theorem State.setTrace_tbuf (l : List OutEvent) : (s.setTrace l).tbuf = s.tbuf := rfl
@[simp] theorem State.setTrace_bang (l : List OutEvent) : (s.setTrace l).bang = s.bang := rfl
@[simp] theorem State.setTrace_gate (l : List OutEvent) : (s.setTrace l).gate = s.gate := rfl
@[simp] theorem State.setTrace_err (l : List OutEvent) : (s.setTrace l).err = s.err := rfl
@[simp] theorem State.setTrace_seq (l : List OutEvent) : (s.setTrace l).seq = s.seq := rfl
@[simp] theorem State.setTrace_firstRun (l : List OutEvent) : (s.setTrace l).firstRun = s.firstRun := rfl
@[simp] theorem State.setTrace_alwaysPublish (l : List OutEvent) : (s.setTrace l).alwaysPublish = s.alwaysPublish := rfl
@[simp] theorem State.setTrace_store (l : List OutEvent) : (s.setTrace l).store = s.store := rfl
@[simp] theorem State.setTrace_dirty (l : List OutEvent) : (s.setTrace l).dirty = s.dirty := rfl
@[simp] theorem State.setTrace_peer (l : List OutEvent) : (s.setTrace l).peer = s.peer := rfl
@[simp] theorem State.setTrace_cfg (l : List OutEvent) : (s.setTrace l).cfg = s.cfg := rfl
@[simp] theorem State.setTrace_pending (l : List OutEvent) : (s.setTrace l).pending = s.pending := rfl
@[simp] theorem State.setTrace_txAnswers (l : List OutEvent) : (s.setTrace l).txAnswers = s.txAnswers := rfl
@[simp] theorem State.setTrace_freeIdx (l : List OutEvent) : (s.setTrace l).freeIdx = s.freeIdx := rfl
@[simp] theorem State.setTrace_trace (l : List OutEvent) : (s.setTrace l).trace = l := rfl
@[simp] theorem State.setTrace_ret (l : List OutEvent) : (s.setTrace l).ret = s.ret := rfl

@[simp] theorem State.setRet_crc (r : Ret) : (s.setRet r).crc = s.crc := rfl
@[simp] theorem State.setRet_fstate (r : Ret) : (s.setRet r).fstate = s.fstate := rfl
@[simp] theorem State.setRet_polls (r : Ret) : (s.setRet r).polls = s.polls := rfl
@[simp] theorem State.setRet_tbuf (r : Ret) : (s.setRet r).tbuf = s.tbuf := rfl
@[simp] theorem State.setRet_bang (r : Ret) : (s.setRet r).bang = s.bang := rfl
@[simp] theorem State.setRet_gate (r : Ret) : (s.setRet r).gate = s.gate := rfl
@[simp] theorem State.setRet_err (r : Ret) : (s.setRet r).err = s.err := rfl
@[simp] theorem State.setRet_seq (r : Ret) : (s.setRet r).seq = s.seq := rfl
@[simp] theorem State.setRet_firstRun (r : Ret) : (s.setRet r).firstRun = s.firstRun := rfl
@[simp] theorem State.setRet_alwaysPublish (r : Ret) : (s.setRet r).alwaysPublish = s.alwaysPublish := rfl
@[simp] theorem State.setRet_store (r : Ret) : (s.setRet r).store = s.store := rfl
@[simp] theorem State.setRet_dirty (r : Ret) : (s.setRet r).dirty = s.dirty := rfl
@[simp] theorem State.setRet_peer (r : Ret) : (s.setRet r).peer = s.peer := rfl
@[simp] theorem State.setRet_cfg (r : Ret) : (s.setRet r).cfg = s.cfg := rfl
@[simp] theorem State.setRet_pending (r : Ret) : (s.setRet r).pending = s.pending := rfl
@[simp] theorem State.setRet_txAnswers (r : Ret) : (s.setRet r).txAnswers = s.txAnswers := rfl
@[simp] theorem State.setRet_freeIdx (r : Ret) : (s.setRet r).freeIdx = s.freeIdx := rfl
@[simp] theorem State.setRet_trace (r : Ret) : (s.setRet r).trace = s.trace := rfl
@[simp] theorem State.setRet_ret (r : Ret) : (s.setRet r).ret = r := rfl

@[simp] theorem State.returns_crc (r : Result) : (s.returns r).crc = s.crc := rfl
@[simp] theorem State.returns_fstate (r : Result) : (s.returns r).fstate = s.fstate := rfl
@[simp] theorem State.returns_polls (r : Result) : (s.returns r).polls = s.polls := rfl
@[simp] theorem State.returns_tbuf (r : Result) : (s.returns r).tbuf = s.tbuf := rfl
@[simp] theorem State.returns_bang (r : Result) : (s.returns r).bang = s.bang := rfl
@[simp] theorem State.returns_gate (r : Result) : (s.returns r).gate = s.gate := rfl
@[simp] theorem State.returns_err (r : Result) : (s.returns r).err = s.err := rfl
@[simp] theorem State.returns_seq (r : Result) : (s.returns r).seq = s.seq := rfl
@[simp] theorem State.returns_firstRun (r : Result) : (s.returns r).firstRun = s.firstRun := rfl
@[simp] theorem State.returns_alwaysPublish (r : Result) : (s.returns r).alwaysPublish = s.alwaysPublish := rfl
@[simp] theorem State.returns_store (r : Result) : (s.returns r).store = s.store := rfl
@[simp] theorem State.returns_dirty (r : Result) : (s.returns r).dirty = s.dirty := rfl
@[simp] theorem State.returns_peer (r : Result) : (s.returns r).peer = s.peer := rfl
@[simp] theorem State.returns_cfg (r : Result) : (s.returns r).cfg = s.cfg := rfl
@[simp] theorem State.returns_pending (r : Result) : (s.returns r).pending = s.pending := rfl
@[simp] theorem State.returns_txAnswers (r : Result) : (s.returns r).txAnswers = s.txAnswers := rfl
@[simp] theorem State.returns_freeIdx (r : Result) : (s.returns r).freeIdx = s.freeIdx := rfl
@[simp] theorem State.returns_trace (r : Result) : (s.returns r).trace = s.trace := rfl
@[simp] theorem State.returns_ret (r : Result) : (s.returns r).ret = ⟨.ok, r⟩ := rfl

@[simp] theorem State.raise_crc (e : Status) : (s.raise e).crc = s.crc := rfl
@[simp] theorem State.raise_fstate (e : Status) : (s.raise e).fstate = s.fstate := rfl
@[simp] theorem State.raise_polls (e : Status) : (s.raise e).polls = s.polls := rfl
@[simp] theorem State.raise_tbuf (e : Status) : (s.raise e).tbuf = s.tbuf := rfl
@[simp] theorem State.raise_bang (e : Status) : (s.raise e).bang = s.bang := rfl
@[simp] theorem State.raise_gate (e : Status) : (s.raise e).gate = s.gate := rfl
@[simp] theorem State.raise_err (e : Status) : (s.raise e).err = e.code := rfl
@[simp] theorem State.raise_seq (e : Status) : (s.raise e).seq = s.seq := rfl
@[simp] theorem State.raise_firstRun (e : Status) : (s.raise e).firstRun = s.firstRun := rfl
@[simp] theorem State.raise_alwaysPublish (e : Status) : (s.raise e).alwaysPublish = s.alwaysPublish := rfl
@[simp] theorem State.raise_store (e : Status) : (s.raise e).store = s.store := rfl
@[simp] theorem State.raise_dirty (e : Status) : (s.raise e).dirty = s.dirty := rfl
@[simp] theorem State.raise_peer (e : Status) : (s.raise e).peer = s.peer := rfl
@[simp] theorem State.raise_cfg (e : Status) : (s.raise e).cfg = s.cfg := rfl
@[simp] theorem State.raise_pending (e : Status) : (s.raise e).pending = s.pending := rfl
@[simp] theorem State.raise_txAnswers (e : Status) : (s.raise e).txAnswers = s.txAnswers := rfl
@[simp] theorem State.raise_freeIdx (e : Status) : (s.raise e).freeIdx = s.freeIdx := rfl
@[simp] theorem State.raise_trace (e : Status) : (s.raise e).trace = s.trace := rfl
@[simp] theorem State.raise_ret (e : Status) : (s.raise e).ret = ⟨e, .none⟩ := rfl

@[simp] theorem State.emit_crc (e : OutEvent) : (s.emit e).crc = s.crc := rfl
@[simp] theorem State.emit_fstate (e : OutEvent) : (s.emit e).fstate = s.fstate := rfl
@[simp] theorem State.emit_polls (e : OutEvent) : (s.emit e).polls = s.polls := rfl
@[simp] theorem State.emit_tbuf (e : OutEvent) : (s.emit e).tbuf = s.tbuf := rfl
@[simp] theorem State.emit_bang (e : OutEvent) : (s.emit e).bang = s.bang := rfl
@[simp] theorem State.emit_gate (e : OutEvent) : (s.emit e).gate = s.gate := rfl
@[simp] theorem State.emit_err (e : OutEvent) : (s.emit e).err = s.err := rfl
@[simp] theorem State.emit_seq (e : OutEvent) : (s.emit e).seq = s.seq := rfl
@[simp] theorem State.emit_firstRun (e : OutEvent) : (s.emit e).firstRun = s.firstRun := rfl
@[simp] theorem State.emit_alwaysPublish (e : OutEvent) : (s.emit e).alwaysPublish = s.alwaysPublish := rfl
@[simp] theorem State.emit_store (e : OutEvent) : (s.emit e).store = s.store := rfl
@[simp] theorem State.emit_dirty (e : OutEvent) : (s.emit e).dirty = s.dirty := rfl
@[simp] theorem State.emit_peer (e : OutEvent) : (s.emit e).peer = s.peer := rfl
@[simp] theorem State.emit_cfg (e : OutEvent) : (s.emit e).cfg = s.cfg := rfl
@[simp] theorem State.emit_pending (e : OutEvent) : (s.emit e).pending = s.pending := rfl
@[simp] theorem State.emit_txAnswers (e : OutEvent) : (s.emit e).txAnswers = s.txAnswers := rfl
@[simp] theorem State.emit_freeIdx (e : OutEvent) : (s.emit e).freeIdx = s.freeIdx := rfl
@[simp] theorem State.emit_trace (e : OutEvent) : (s.emit e).trace = s.trace ++ [e] := rfl
@[simp] theorem State.emit_ret (e : OutEvent) : (s.emit e).ret = s.ret := rfl

@[simp] theorem State.toIdle_crc : (s.toIdle).crc = s.crc := rfl
@[simp] theorem State.toIdle_fstate : (s.toIdle).fstate = .idle := rfl
@[simp] theorem State.toIdle_polls : (s.toIdle).polls = 0 := rfl
@[simp] theorem State.toIdle_tbuf : (s.toIdle).tbuf = [] := rfl
@[simp] theorem State.toIdle_bang : (s.toIdle).bang = none := rfl
@[simp] theorem State.toIdle_gate : (s.toIdle).gate = s.gate := rfl
@[simp] theorem State.toIdle_err : (s.toIdle).err = s.err := rfl
@[simp] theorem State.toIdle_seq : (s.toIdle).seq = s.seq := rfl
@[simp] theorem State.toIdle_firstRun : (s.toIdle).firstRun = s.firstRun := rfl
@[simp] theorem State.toIdle_alwaysPublish : (s.toIdle).alwaysPublish = s.alwaysPublish := rfl
@[simp] theorem State.toIdle_store : (s.toIdle).store = s.store := rfl
@[simp] theorem State.toIdle_dirty : (s.toIdle).dirty = s.dirty := rfl
@[simp] theorem State.toIdle_peer : (s.toIdle).peer = s.peer := rfl
@[simp] theorem State.toIdle_cfg : (s.toIdle).cfg = s.cfg := rfl
@[simp] theorem State.toIdle_pending : (s.toIdle).pending = s.pending := rfl
@[simp] theorem State.toIdle_txAnswers : (s.toIdle).txAnswers = s.txAnswers := rfl
@[simp] theorem State.toIdle_freeIdx : (s.toIdle).freeIdx = s.freeIdx := rfl
@[simp] theorem State.toIdle_trace : (s.toIdle).trace = s.trace := rfl
@[simp] theorem State.toIdle_ret : (s.toIdle).ret = s.ret := rfl

@[simp] theorem State.writeValue_crc (r : AttrRow) (v : List Byte) : (s.writeValue r v).crc = s.crc := rfl
@[simp] theorem State.writeValue_fstate (r : AttrRow) (v : List Byte) : (s.writeValue r v).fstate = s.fstate := rfl
@[simp] theorem State.writeValue_polls (r : AttrRow) (v : List Byte) : (s.writeValue r v).polls = s.polls := rfl
@[simp] theorem State.writeValue_tbuf (r : AttrRow) (v : List Byte) : (s.writeValue r v).tbuf = s.tbuf := rfl
@[simp] theorem State.writeValue_bang (r : AttrRow) (v : List Byte) : (s.writeValue r v).bang = s.bang := rfl
@[simp] theorem State.writeValue_gate (r : AttrRow) (v : List Byte) : (s.writeValue r v).gate = s.gate := rfl
@[simp] theorem State.writeValue_err (r : AttrRow) (v : List Byte) : (s.writeValue r v).err = s.err := rfl
@[simp] theorem State.writeValue_seq (r : AttrRow) (v : List Byte) : (s.writeValue r v).seq = s.seq := rfl
@[simp] theorem State.writeValue_firstRun (r : AttrRow) (v : List Byte) : (s.writeValue r v).firstRun = s.firstRun := rfl
@[simp] theorem State.writeValue_alwaysPublish (r : AttrRow) (v : List Byte) : (s.writeValue r v).alwaysPublish = s.alwaysPublish := rfl
@[simp] theorem State.writeValue_store (r : AttrRow) (v : List Byte) : (s.writeValue r v).store = Memory.write r.init s.store r.key.addr v := rfl
@[simp] theorem State.writeValue_dirty (r : AttrRow) (v : List Byte) : (s.writeValue r v).dirty = s.dirty := rfl
@[simp] theorem State.writeValue_peer (r : AttrRow) (v : List Byte) : (s.writeValue r v).peer = s.peer := rfl
@[simp] theorem State.writeValue_cfg (r : AttrRow) (v : List Byte) : (s.writeValue r v).cfg = s.cfg := rfl
@[simp] theorem State.writeValue_pending (r : AttrRow) (v : List Byte) : (s.writeValue r v).pending = s.pending := rfl
@[simp] theorem State.writeValue_txAnswers (r : AttrRow) (v : List Byte) : (s.writeValue r v).txAnswers = s.txAnswers := rfl
@[simp] theorem State.writeValue_freeIdx (r : AttrRow) (v : List Byte) : (s.writeValue r v).freeIdx = s.freeIdx := rfl
@[simp] theorem State.writeValue_trace (r : AttrRow) (v : List Byte) : (s.writeValue r v).trace = s.trace := rfl
@[simp] theorem State.writeValue_ret (r : AttrRow) (v : List Byte) : (s.writeValue r v).ret = s.ret := rfl

@[simp] theorem State.setDirtyOf_crc (ep : Byte) (l : List Key) : (s.setDirtyOf ep l).crc = s.crc := rfl
@[simp] theorem State.setDirtyOf_fstate (ep : Byte) (l : List Key) : (s.setDirtyOf ep l).fstate = s.fstate := rfl
@[simp] theorem State.setDirtyOf_polls (ep : Byte) (l : List Key) : (s.setDirtyOf ep l).polls = s.polls := rfl
@[simp] theorem State.setDirtyOf_tbuf (ep : Byte) (l : List Key) : (s.setDirtyOf ep l).tbuf = s.tbuf := rfl
@[simp] theorem State.setDirtyOf_bang (ep : Byte) (l : List Key) : (s.setDirtyOf ep l).bang = s.bang := rfl
@[simp] theorem State.setDirtyOf_gate (ep : Byte) (l : List Key) : (s.setDirtyOf ep l).gate = s.gate := rfl
@[simp] theorem State.setDirtyOf_err (ep : Byte) (l : List Key) : (s.setDirtyOf ep l).err = s.err := rfl
@[simp] theorem State.setDirtyOf_seq (ep : Byte) (l : List Key) : (s.setDirtyOf ep l).seq = s.seq := rfl
@[simp] theorem State.setDirtyOf_firstRun (ep : Byte) (l : List Key) : (s.setDirtyOf ep l).firstRun = s.firstRun := rfl
@[simp] theorem State.setDirtyOf_alwaysPublish (ep : Byte) (l : List Key) : (s.setDirtyOf ep l).alwaysPublish = s.alwaysPublish := rfl
@[simp] theorem State.setDirtyOf_store (ep : Byte) (l : List Key) : (s.setDirtyOf ep l).store = s.store := rfl
@[simp] theorem State.setDirtyOf_dirty (ep : Byte) (l : List Key) : (s.setDirtyOf ep l).dirty = if l = [] then Sparse.erase s.dirty ep.toNat else Sparse.insert s.dirty ep.toNat l := rfl
@[simp] theorem State.setDirtyOf_peer (ep : Byte) (l : List Key) : (s.setDirtyOf ep l).peer = s.peer := rfl
@[simp] theorem State.setDirtyOf_cfg (ep : Byte) (l : List Key) : (s.setDirtyOf ep l).cfg = s.cfg := rfl
@[simp] theorem State.setDirtyOf_pending (ep : Byte) (l : List Key) : (s.setDirtyOf ep l).pending = s.pending := rfl
@[simp] theorem State.setDirtyOf_txAnswers (ep : Byte) (l : List Key) : (s.setDirtyOf ep l).txAnswers = s.txAnswers := rfl
@[simp] theorem State.setDirtyOf_freeIdx (ep : Byte) (l : List Key) : (s.setDirtyOf ep l).freeIdx = s.freeIdx := rfl
@[simp] theorem State.setDirtyOf_trace (ep : Byte) (l : List Key) : (s.setDirtyOf ep l).trace = s.trace := rfl
@[simp] theorem State.setDirtyOf_ret (ep : Byte) (l : List Key) : (s.setDirtyOf ep l).ret = s.ret := rfl

end Sys2Proof.Machine
end

