-- ==== Sys2Proof/Laws/Memory.lean ====
section
/-! SUPPORT. The keyed spaces: reading after writing, and that every operation over them keeps the canonical form. -/

namespace Sys2Proof.Machine

theorem Memory.read_write_self {init : Option (List Byte)} {m : Sparse (List Byte)} (h : Sparse.Sorted m) (a : Nat)
    (v : List Byte) : Memory.read init (Memory.write init m a v) a = some v := by
  unfold Memory.write
  split
  · rename_i hi
    simp [Memory.read, Sparse.find_erase_self h, hi]
  · simp [Memory.read, Sparse.find_insert_self]

theorem Memory.read_write_other {init init' : Option (List Byte)} (m : Sparse (List Byte)) {a b : Nat} (v : List Byte)
    (h : b ≠ a) : Memory.read init' (Memory.write init m a v) b = Memory.read init' m b := by
  unfold Memory.write
  split
  · simp [Memory.read, Sparse.find_erase_other m h]
  · simp [Memory.read, Sparse.find_insert_other m v h]

/-- Writing a well-formed value to a row keeps the canonical form of the space ATTR. -/
theorem Memory.wf_write {c : Config} {m : Sparse (List Byte)} (h : Memory.wf c m) {r : AttrRow} (hr : r ∈ c.attrTable)
    {v : List Byte} (hv : c.valueWf r.tag v = true) : Memory.wf c (Memory.write r.init m r.key.addr v) := by
  unfold Memory.write
  split
  · exact ⟨Sparse.sorted_erase h.1 _, fun e he => h.2 e (Sparse.mem_erase he)⟩
  · rename_i hi
    refine ⟨Sparse.sorted_insert h.1 _ _, fun e he => ?_⟩
    rcases Sparse.mem_insert he with rfl | he
    · exact ⟨r, hr, rfl, hi, hv⟩
    · exact h.2 e he

theorem Memory.wf_nil (c : Config) : Memory.wf c [] := by simp [Memory.wf]

theorem DirtySets.wf_nil (c : Config) : DirtySets.wf c [] := by simp [DirtySets.wf]

theorem reset_memory_wf : Memory.wf State.reset.cfg State.reset.store := Memory.wf_nil _

theorem reset_dirty_wf : DirtySets.wf State.reset.cfg State.reset.dirty := DirtySets.wf_nil _

theorem State.value_of_row {s : State} {k : Key} {r : AttrRow} (h : s.cfg.row k = some r) : s.value k = s.rowValue r := by
  simp [State.value, h]

theorem State.value_writeValue_self {s : State} {k : Key} {r : AttrRow} (hs : Sparse.Sorted s.store)
    (h : s.cfg.row k = some r) (v : List Byte) : (s.writeValue r v).value k = some v := by
  simp [State.value, State.writeValue, State.rowValue, h, Memory.read_write_self hs]

theorem State.value_writeValue_other {s : State} {k k' : Key} {r : AttrRow} (h : s.cfg.row k = some r) (hk : k' ≠ k)
    (v : List Byte) : (s.writeValue r v).value k' = s.value k' := by
  unfold State.value
  simp only [State.writeValue, State.setStore_cfg]
  cases h' : s.cfg.row k' with
  | none => rfl
  | some r' =>
    have hne : r'.key.addr ≠ r.key.addr := fun he =>
      hk (by rw [← Config.row_key h', ← Config.row_key h]; exact Key.addr_inj he)
    simp [State.rowValue, Memory.read_write_other _ _ hne]

theorem State.dirtyOf_setDirtyOf_self {s : State} (hs : Sparse.Sorted s.dirty) (ep : Byte) (l : List Key) :
    (s.setDirtyOf ep l).dirtyOf ep = l := by
  unfold State.setDirtyOf State.dirtyOf
  split
  · rename_i h
    simp [Sparse.find_erase_self hs, h]
  · simp [Sparse.find_insert_self]

theorem State.dirtyOf_setDirtyOf_other {s : State} {ep ep' : Byte} (h : ep' ≠ ep) (l : List Key) :
    (s.setDirtyOf ep l).dirtyOf ep' = s.dirtyOf ep' := by
  have hn : ep'.toNat ≠ ep.toNat := fun he => h (BitVec.eq_of_toNat_eq he)
  unfold State.setDirtyOf State.dirtyOf
  split
  · simp [Sparse.find_erase_other _ hn]
  · simp [Sparse.find_insert_other _ _ hn]

/-- Writing one endpoint's set keeps the canonical form of the dirty sets. -/
theorem DirtySets.wf_setDirtyOf {s : State} (h : DirtySets.wf s.cfg s.dirty) (ep : Byte) {l : List Key} (hn : l.Nodup)
    (hk : ∀ k ∈ l, k.ep = ep ∧ (s.cfg.row k).isSome = true) : DirtySets.wf s.cfg (s.setDirtyOf ep l).dirty := by
  unfold State.setDirtyOf
  split
  · exact ⟨Sparse.sorted_erase h.1 _, fun e he => h.2 e (Sparse.mem_erase he)⟩
  · rename_i hl
    refine ⟨Sparse.sorted_insert h.1 _ _, fun e he => ?_⟩
    rcases Sparse.mem_insert he with rfl | he
    · exact ⟨hl, hn, fun k hk' => ⟨by rw [(hk k hk').1], (hk k hk').2⟩⟩
    · exact h.2 e he

/-- The dirty set of an endpoint holds no key twice, and keys of that endpoint only, each of some row. -/
theorem DirtySets.wf_dirtyOf {s : State} (h : DirtySets.wf s.cfg s.dirty) (ep : Byte) :
    (s.dirtyOf ep).Nodup ∧ ∀ k ∈ s.dirtyOf ep, k.ep = ep ∧ (s.cfg.row k).isSome = true := by
  unfold State.dirtyOf
  cases hf : Sparse.find s.dirty ep.toNat with
  | none => simp
  | some l =>
    obtain ⟨-, h2, h3⟩ := h.2 _ (Sparse.mem_of_find hf)
    exact ⟨h2, fun k hk => ⟨BitVec.eq_of_toNat_eq (h3 k hk).1, (h3 k hk).2⟩⟩

end Sys2Proof.Machine
end

