-- ==== Sys2Proof/Laws/Ops.lean ====
section
/-! SUPPORT. What each shared operation can do, said once. -/

namespace Sys2Proof.Machine

/-- Ending OK writes the return value only (R14, R27). -/
theorem State.returns_eq (s : State) (r : Result) : s.returns r = { s with ret := ⟨.ok, r⟩ } := rfl

/-- Ending in an error outcome writes ERR and the return value only (R280). -/
theorem State.raise_eq (s : State) (e : Status) : s.raise e = { s with err := e.code, ret := ⟨e, .none⟩ } := rfl

/-- Dropping a frame: a log event, then MalformedRequest (R277). -/
theorem State.dropFrame_eq (s : State) (e : LogEvent) :
    s.dropFrame e = { s with err := 4, trace := s.trace ++ [.log e], ret := ⟨.malformedRequest, .none⟩ } := rfl

/-- A transmit consumes one answer and is seen outside (R13). -/
theorem State.transmit_eq (s : State) (tx : TxEnvelope) :
    s.transmit tx = { s with
      txAnswers := s.txAnswers.tail
      freeIdx := s.freeIdx + 1
      trace := s.trace ++ [.transmit tx s.txAnswer] } := rfl

/-- A response is one transmit; its success shows only in the result (R237). -/
theorem State.respond_eq (s : State) (tx : TxEnvelope) :
    s.respond tx = { s with
      txAnswers := s.txAnswers.tail
      freeIdx := s.freeIdx + 1
      trace := s.trace ++ [.transmit tx s.txAnswer]
      ret := ⟨.ok, .frames [(tx.frame, s.txAnswer)]⟩ } := rfl

/-- A report is one transmit; SEQ advances by one exactly when it is accepted (R214). -/
theorem State.sendReport_eq (s : State) (tx : TxEnvelope) :
    s.sendReport tx = { s with
      seq := if s.txAnswer then s.seq + 1 else s.seq
      txAnswers := s.txAnswers.tail
      freeIdx := s.freeIdx + 1
      trace := s.trace ++ [.transmit tx s.txAnswer] } := by
  unfold State.sendReport
  split <;> rfl

/-- The gate after driving it, and the one call of `set_ready` a change is (R266). -/
theorem State.driveGate_eq (s : State) (b : Bool) :
    s.driveGate b = { s with gate := b, trace := if s.gate = b then s.trace else s.trace ++ [.setReady b] } := by
  unfold State.driveGate
  split
  · rename_i h
    subst h
    rfl
  · rfl

/-- `timeout()` and overflow: the framer's registers as in IDLE, the gate down, the outcome raised (R158, R160). -/
theorem State.failAcquisition_eq (s : State) (e : Status) :
    s.failAcquisition e = { s with
      fstate := .idle
      polls := 0
      tbuf := []
      bang := none
      gate := false
      err := e.code
      trace := if s.gate = false then s.trace else s.trace ++ [.setReady false]
      ret := ⟨e, .none⟩ } := by
  rw [State.failAcquisition, State.driveGate_eq]
  rfl

/-- `complete()`: the buffer is trimmed and the gate goes down (R157). -/
theorem State.complete_eq (s : State) (j : Nat) :
    s.complete j = { s with
      fstate := .complete
      polls := 0
      tbuf := s.tbuf.take (j + 1 + s.cfg.csumDigits)
      gate := false
      trace := if s.gate = false then s.trace else s.trace ++ [.setReady false] } := by
  rw [State.complete, State.driveGate_eq]
  rfl

/-- `mark(k)` writes the dirty sets only (R198). -/
theorem State.mark_eq (s : State) (k : Key) : s.mark k = { s with dirty := (s.mark k).dirty } := by
  unfold State.mark
  split <;> rfl

/-- After `mark(k)` the key is in its endpoint's set: at its old place, else at the end (R198). -/
theorem State.dirtyOf_mark_self {s : State} (hs : Sparse.Sorted s.dirty) (k : Key) :
    (s.mark k).dirtyOf k.ep = if k ∈ s.dirtyOf k.ep then s.dirtyOf k.ep else s.dirtyOf k.ep ++ [k] := by
  unfold State.mark
  split
  · rfl
  · exact State.dirtyOf_setDirtyOf_self hs _ _

theorem State.dirtyOf_mark_other (s : State) {k : Key} {ep : Byte} (h : ep ≠ k.ep) :
    (s.mark k).dirtyOf ep = s.dirtyOf ep := by
  unfold State.mark
  split
  · rfl
  · exact State.dirtyOf_setDirtyOf_other h _

/-- `mark` of a key with a row keeps the canonical form of the dirty sets. -/
theorem DirtySets.wf_mark {s : State} (h : DirtySets.wf s.cfg s.dirty) {k : Key} (hk : (s.cfg.row k).isSome = true) :
    DirtySets.wf s.cfg (s.mark k).dirty := by
  unfold State.mark
  split
  · exact h
  · rename_i hm
    obtain ⟨h1, h2⟩ := DirtySets.wf_dirtyOf h k.ep
    refine DirtySets.wf_setDirtyOf h k.ep ?_ fun l hl => ?_
    · exact List.nodup_append.2 ⟨h1, List.nodup_singleton k, fun a ha b hb => by
        rw [List.mem_singleton.1 hb]
        exact fun hab => hm (hab ▸ ha)⟩
    · rcases List.mem_append.1 hl with hl | hl
      · exact h2 l hl
      · rw [List.mem_singleton.1 hl]
        exact ⟨rfl, hk⟩

/-- RESET: the reset table of R42 over the configuration and the model's own fields (R265, R302). -/
theorem State.resetElements_eq (s : State) :
    s.resetElements = { State.resetWith s.cfg with
      pending := s.pending
      txAnswers := s.txAnswers
      freeIdx := s.freeIdx
      trace := if s.gate = false then s.trace else s.trace ++ [.setReady false]
      ret := s.ret } := by
  rw [State.resetElements, State.driveGate_eq]
  rfl

/-- The loop of REPORT writes SEQ, the oracle fields and the trace only (R216). -/
theorem sendGroups_frame (ep : Byte) (gs : List (Half × List Key)) (s : State) :
    (sendGroups ep gs s).1 = { s with
      seq := (sendGroups ep gs s).1.seq
      txAnswers := (sendGroups ep gs s).1.txAnswers
      freeIdx := (sendGroups ep gs s).1.freeIdx
      trace := (sendGroups ep gs s).1.trace } := by
  induction gs generalizing s with
  | nil => rfl
  | cons g gs ih =>
    obtain ⟨cl, ms⟩ := g
    simp only [sendGroups]
    rw [ih]
    simp only [State.sendReport_eq]

/-- Every operation ends with a next state (R14, R290). -/
theorem exec_is_next (i : Instr) (s : State) : ∃ t, exec i s = .next t := by
  cases i <;> exact ⟨_, rfl⟩

end Sys2Proof.Machine
end

