-- ==== Sys2Proof/Laws/Framer.lean ====
section
/-! SUPPORT. The framer's procedures (41_framer.md): each one's cases, said once. -/

namespace Sys2Proof.Machine

theorem findByte_eq_none {b : Byte} {s : List Byte} : findByte b s = none ↔ b ∉ s := by
  simp only [findByte, List.findIdx?_eq_none_iff, beq_eq_false_iff_ne]
  exact ⟨fun h hb => h b hb rfl, fun h x hx he => h (he ▸ hx)⟩

/-- The first occurrence: the byte stands there and nowhere before. -/
theorem findByte_eq_some {b : Byte} {s : List Byte} {j : Nat} :
    findByte b s = some j ↔ s[j]? = some b ∧ b ∉ s.take j := by
  simp only [findByte, List.findIdx?_eq_some_iff_getElem, beq_iff_eq]
  constructor
  · rintro ⟨h, h1, h2⟩
    refine ⟨by rw [List.getElem?_eq_getElem h, h1], fun hb => ?_⟩
    obtain ⟨k, hk, he⟩ := List.mem_iff_getElem.1 hb
    have hk' : k < j := by
      rw [List.length_take] at hk
      omega
    refine h2 k hk' ?_
    rwa [List.getElem_take] at he
  · rintro ⟨h1, h2⟩
    obtain ⟨h, he⟩ := List.getElem?_eq_some_iff.1 h1
    refine ⟨h, he, fun k hk hb => h2 ?_⟩
    exact List.mem_take_iff_getElem.2 ⟨k, by omega, hb⟩

/-- `advance()` in BODY without an end marker does nothing. -/
theorem State.advance_body_none {s : State} (h : s.fstate = .body) (hf : findByte s.cfg.endMark s.tbuf = none) :
    s.advance = s := by
  simp [State.advance, State.advanceBody, State.advanceTail, h, hf]

/-- `advance()` in BODY with the first end marker at `j` and the telegram incomplete goes to TAIL. -/
theorem State.advance_body_tail {s : State} {j : Nat} (h : s.fstate = .body)
    (hf : findByte s.cfg.endMark s.tbuf = some j) (hl : s.tbuf.length < j + 1 + s.cfg.csumDigits) :
    s.advance = { s with fstate := .tail, polls := 0, bang := some j } := by
  simp [State.advance, State.advanceBody, State.advanceTail, h, hf, Nat.not_le.2 hl, State.setFramer]

/-- `advance()` in BODY with a whole telegram in the buffer goes through TAIL to COMPLETE. -/
theorem State.advance_body_complete {s : State} {j : Nat} (h : s.fstate = .body)
    (hf : findByte s.cfg.endMark s.tbuf = some j) (hl : j + 1 + s.cfg.csumDigits ≤ s.tbuf.length) :
    s.advance = { s with
      fstate := .complete
      polls := 0
      tbuf := s.tbuf.take (j + 1 + s.cfg.csumDigits)
      bang := some j
      gate := false
      trace := if s.gate = false then s.trace else s.trace ++ [.setReady false] } := by
  simp [State.advance, State.advanceBody, State.advanceTail, h, hf, hl, State.complete_eq, State.setFramer]

/-- `advance()` in TAIL with the telegram incomplete does nothing. -/
theorem State.advance_tail_stay {s : State} {j : Nat} (h : s.fstate = .tail) (hb : s.bang = some j)
    (hl : s.tbuf.length < j + 1 + s.cfg.csumDigits) : s.advance = s := by
  simp [State.advance, State.advanceBody, State.advanceTail, h, hb, Nat.not_le.2 hl]

/-- `advance()` in TAIL with a whole telegram in the buffer completes it. -/
theorem State.advance_tail_complete {s : State} {j : Nat} (h : s.fstate = .tail) (hb : s.bang = some j)
    (hl : j + 1 + s.cfg.csumDigits ≤ s.tbuf.length) : s.advance = s.complete j := by
  simp [State.advance, State.advanceBody, State.advanceTail, h, hb, hl]

/-- The calls of `set_ready` in the two forms the model writes them. -/
theorem State.traceGateDown_eq (s : State) :
    s.traceGateDown = if s.gate = false then s.trace else s.trace ++ [.setReady false] := by
  unfold State.traceGateDown
  cases s.gate <;> rfl

theorem State.failAcquisition_eq_failed (s : State) (e : Status) : s.failAcquisition e = s.failed e := by
  rw [State.failAcquisition_eq, State.failed, State.traceGateDown_eq]

/-- Everything one poll can do (R152 to R158, R160). -/
theorem State.poll_cases (s : State) (c : List Byte) :
    (s.fstate.acquiring = false ∧ s.poll c = s.illegal) ∨
    (s.fstate.acquiring = true ∧ (s.poll c = s.failed .acquisitionTimeout ∨ s.poll c = s.failed .bufferOverflow)) ∨
    (s.fstate = .scanning ∧ s.polls + 1 ≠ s.cfg.n1 ∧ s.poll c = s.acquiring .scanning (s.polls + 1) s.tbuf s.bang) ∨
    (∃ i b, s.fstate = .scanning ∧ findByte s.cfg.startMark c = some i ∧ b = c.drop i ∧ s.cfg.fits b.length = true ∧
      ((findByte s.cfg.endMark b = none ∧ s.poll c = s.acquiring .body 0 b s.bang) ∨
        ∃ j, findByte s.cfg.endMark b = some j ∧
          ((b.length < j + 1 + s.cfg.csumDigits ∧ s.poll c = s.acquiring .tail 0 b (some j)) ∨
            (j + 1 + s.cfg.csumDigits ≤ b.length ∧ s.poll c = s.completed b j)))) ∨
    (∃ b, s.fstate = .body ∧ b = s.tbuf ++ c ∧ s.cfg.fits b.length = true ∧
      ((findByte s.cfg.endMark b = none ∧ s.polls + 1 ≠ s.cfg.n2 ∧ s.poll c = s.acquiring .body (s.polls + 1) b s.bang) ∨
        ∃ j, findByte s.cfg.endMark b = some j ∧
          ((b.length < j + 1 + s.cfg.csumDigits ∧ s.poll c = s.acquiring .tail 0 b (some j)) ∨
            (j + 1 + s.cfg.csumDigits ≤ b.length ∧ s.poll c = s.completed b j)))) ∨
    (∃ b, s.fstate = .tail ∧ b = s.tbuf ++ c ∧ s.cfg.fits b.length = true ∧
      ((s.polls + 1 ≠ s.cfg.n3 ∧ (∀ j, s.bang = some j → b.length < j + 1 + s.cfg.csumDigits) ∧
          s.poll c = s.acquiring .tail (s.polls + 1) b s.bang) ∨
        ∃ j, s.bang = some j ∧ j + 1 + s.cfg.csumDigits ≤ b.length ∧ s.poll c = s.completed b j)) := by
  cases hf : s.fstate with
  | idle => exact .inl ⟨rfl, by simp only [State.poll, hf]; rfl⟩
  | complete => exact .inl ⟨rfl, by simp only [State.poll, hf]; rfl⟩
  | scanning =>
    have key : s.poll c = s.pollScanning c := by simp only [State.poll, hf]
    rw [key, State.pollScanning]
    cases hm : findByte s.cfg.startMark c with
    | none =>
      by_cases hp : s.polls + 1 = s.cfg.n1
      · refine .inr (.inl ⟨rfl, .inl ?_⟩)
        simp [State.endPoll, State.setFramer, hp, State.failAcquisition_eq_failed]
        rfl
      · refine .inr (.inr (.inl ⟨rfl, hp, ?_⟩))
        simp [State.endPoll, State.setFramer, hp, State.acquiring, State.returns_eq]
    | some i =>
      by_cases hc : s.cfg.fits (c.drop i).length = true
      · refine .inr (.inr (.inr (.inl ⟨i, c.drop i, rfl, rfl, rfl, hc, ?_⟩)))
        simp only [hc, if_true]
        cases he : findByte s.cfg.endMark (c.drop i) with
        | none => exact .inl ⟨rfl, by rw [State.advance_body_none rfl he]; rfl⟩
        | some j =>
          refine .inr ⟨j, rfl, ?_⟩
          by_cases hl : j + 1 + s.cfg.csumDigits ≤ (c.drop i).length
          · refine .inr ⟨hl, ?_⟩
            rw [State.advance_body_complete (s := s.setFramer .body 0 (c.drop i) s.bang) rfl he hl, State.completed,
              State.traceGateDown_eq]
            rfl
          · refine .inl ⟨by omega, ?_⟩
            rw [State.advance_body_tail (s := s.setFramer .body 0 (c.drop i) s.bang) rfl he
              (by simp only [State.setFramer_tbuf, State.setFramer_cfg]; omega)]
            rfl
      · exact .inr (.inl ⟨rfl, .inr (by simp only [hc]; exact State.failAcquisition_eq_failed _ _)⟩)
  | body =>
    have key : s.poll c = s.pollBody c := by simp only [State.poll, hf]
    rw [key, State.pollBody]
    by_cases hc : s.cfg.fits (s.tbuf ++ c).length = true
    · rw [if_pos hc]
      cases he : findByte s.cfg.endMark (s.tbuf ++ c) with
      | none =>
        rw [State.advance_body_none (s := s.setFramer .body (s.polls + 1) (s.tbuf ++ c) s.bang) rfl he]
        by_cases hp : s.polls + 1 = s.cfg.n2
        · refine .inr (.inl ⟨rfl, .inl ?_⟩)
          simp [State.endPoll, State.setFramer, hp, State.failAcquisition_eq_failed]
          rfl
        · refine .inr (.inr (.inr (.inr (.inl ⟨_, rfl, rfl, hc, .inl ⟨he, hp, ?_⟩⟩))))
          simp [State.endPoll, State.setFramer, hp, State.acquiring, State.returns_eq]
      | some j =>
        refine .inr (.inr (.inr (.inr (.inl ⟨_, rfl, rfl, hc, .inr ⟨j, he, ?_⟩⟩))))
        by_cases hl : j + 1 + s.cfg.csumDigits ≤ (s.tbuf ++ c).length
        · refine .inr ⟨hl, ?_⟩
          rw [State.advance_body_complete (s := s.setFramer .body (s.polls + 1) (s.tbuf ++ c) s.bang) rfl he hl,
            State.completed, State.traceGateDown_eq]
          simp [State.endPoll, State.setFramer, State.returns_eq]
          rfl
        · refine .inl ⟨by omega, ?_⟩
          rw [State.advance_body_tail (s := s.setFramer .body (s.polls + 1) (s.tbuf ++ c) s.bang) rfl he
            (by simp only [State.setFramer_tbuf, State.setFramer_cfg]; omega)]
          simp [State.endPoll, State.setFramer, State.returns_eq, State.acquiring]
    · exact .inr (.inl ⟨rfl, .inr (by rw [if_neg hc]; exact State.failAcquisition_eq_failed _ _)⟩)
  | tail =>
    have key : s.poll c = s.pollTail c := by simp only [State.poll, hf]
    rw [key, State.pollTail]
    by_cases hc : s.cfg.fits (s.tbuf ++ c).length = true
    · rw [if_pos hc]
      by_cases hj : ∃ j, s.bang = some j ∧ j + 1 + s.cfg.csumDigits ≤ (s.tbuf ++ c).length
      · obtain ⟨j, hb, hl⟩ := hj
        refine .inr (.inr (.inr (.inr (.inr ⟨_, rfl, rfl, hc, .inr ⟨j, hb, hl, ?_⟩⟩))))
        rw [State.advance_tail_complete (s := s.setFramer .tail (s.polls + 1) (s.tbuf ++ c) s.bang) rfl hb hl,
          State.complete_eq, State.completed, State.traceGateDown_eq]
        simp [State.endPoll, State.setFramer, State.returns_eq, hb]
      · have hadv : (s.setFramer .tail (s.polls + 1) (s.tbuf ++ c) s.bang).advance
            = s.setFramer .tail (s.polls + 1) (s.tbuf ++ c) s.bang := by
          cases hb : s.bang with
          | none => rfl
          | some j =>
            refine State.advance_tail_stay (j := j) rfl rfl ?_
            simp only [State.setFramer_tbuf, State.setFramer_cfg]
            exact Nat.not_le.1 fun h => hj ⟨j, hb, h⟩
        rw [hadv]
        by_cases hp : s.polls + 1 = s.cfg.n3
        · refine .inr (.inl ⟨rfl, .inl ?_⟩)
          simp [State.endPoll, State.setFramer, hp, State.failAcquisition_eq_failed]
          rfl
        · refine .inr (.inr (.inr (.inr (.inr ⟨_, rfl, rfl, hc, .inl ⟨hp, ?_, ?_⟩⟩))))
          · exact fun j hb => Nat.not_le.1 fun h => hj ⟨j, hb, h⟩
          · simp [State.endPoll, State.setFramer, hp, State.acquiring, State.returns_eq]
    · exact .inr (.inl ⟨rfl, .inr (by rw [if_neg hc]; exact State.failAcquisition_eq_failed _ _)⟩)

end Sys2Proof.Machine
end

