-- ==== Sys2Proof/Laws/Exec.lean ====
section
/-! SUPPORT. What each part of the machine writes, said once: polls, deliveries, marks, reports. -/

namespace Sys2Proof.Machine

/-- A poll writes the framer's registers, the gate, ERR, the trace and the return value only (R43). -/
theorem State.poll_frame (s : State) (c : List Byte) :
    s.poll c = { s with
      fstate := (s.poll c).fstate
      polls := (s.poll c).polls
      tbuf := (s.poll c).tbuf
      bang := (s.poll c).bang
      gate := (s.poll c).gate
      err := (s.poll c).err
      trace := (s.poll c).trace
      ret := (s.poll c).ret } := by
  rcases State.poll_cases s c with ⟨_, h⟩ | ⟨_, h | h⟩ | ⟨_, _, h⟩ | ⟨_, _, _, _, _, _, ⟨_, h⟩ | ⟨_, _, ⟨_, h⟩ | ⟨_, h⟩⟩⟩ |
    ⟨_, _, _, _, ⟨_, _, h⟩ | ⟨_, _, ⟨_, h⟩ | ⟨_, h⟩⟩⟩ | ⟨_, _, _, _, ⟨_, _, h⟩ | ⟨_, _, _, h⟩⟩ <;> rw [h] <;> rfl

/-- The states that a drop or a response of a delivery leads to: ERR, the trace, the oracle fields and the return value
may differ, nothing else does. -/
def State.Answered (s t : State) : Prop :=
  t = { s with err := t.err, trace := t.trace, txAnswers := t.txAnswers, freeIdx := t.freeIdx, ret := t.ret }

theorem State.answered_dropFrame (s : State) (e : LogEvent) : s.Answered (s.dropFrame e) := rfl

theorem State.answered_respond (s : State) (tx : TxEnvelope) : s.Answered (s.respond tx) := rfl

theorem State.answered_returns (s : State) (r : Result) : s.Answered (s.returns r) := rfl

theorem State.answered_simpleDesc (s : State) (r : Route) (tseq : Byte) (addr : Half) (ep : Byte) :
    s.Answered (s.simpleDesc r tseq addr ep) := by
  unfold State.simpleDesc
  split
  · exact State.answered_respond s _
  · exact State.answered_dropFrame s _

/-- An address response is learned or dropped (R251, R258). -/
theorem State.addrRsp_cases (s : State) (body : List Byte) :
    s.addrRsp body = s.dropFrame .shortFrame ∨ ∃ long short, s.addrRsp body = s.learnPeer long short := by
  unfold State.addrRsp
  split
  · exact .inr ⟨_, _, rfl⟩
  · exact .inl rfl

/-- What an MG delivery can do: a response or a drop, or, of an address-response cluster only, a write of PEER (R250). -/
theorem State.mgDispatch_cases (s : State) (e : Envelope) :
    s.Answered (s.mgDispatch e) ∨
    ((e.cluster = s.cfg.wire.mgNwkAddrRsp ∨ e.cluster = s.cfg.wire.mgIeeeAddrRsp) ∧
      ∃ long short, s.mgDispatch e = s.learnPeer long short) := by
  simp only [State.mgDispatch]
  split
  · exact .inl (State.answered_dropFrame s _)
  · split
    · split
      · exact .inl (State.answered_simpleDesc s _ _ _ _)
      · exact .inl (State.answered_dropFrame s _)
    split
    · split
      · exact .inl (State.answered_respond s _)
      · exact .inl (State.answered_dropFrame s _)
    split
    · exact .inl (State.answered_respond s _)
    split
    · exact .inl (State.answered_respond s _)
    split
    · rename_i h
      rcases State.addrRsp_cases s _ with h1 | h1
      · rw [h1]
        exact .inl (State.answered_dropFrame s _)
      · exact .inr ⟨.inl h, h1⟩
    split
    · rename_i h
      rcases State.addrRsp_cases s _ with h1 | h1
      · rw [h1]
        exact .inl (State.answered_dropFrame s _)
      · exact .inr ⟨.inr h, h1⟩
    split
    · exact .inl (State.answered_returns s _)
    · exact .inl (State.answered_dropFrame s _)

/-- What a CL delivery can do: a response or a drop, or, of the default response only, clearing FIRST_RUN (R231). -/
theorem State.clDispatch_cases (s : State) (e : Envelope) :
    s.Answered (s.clDispatch e) ∨
    ((∃ kind seq args, e.payload = kind :: seq :: s.cfg.wire.cmdDefaultRsp :: args) ∧
      s.clDispatch e = s.defaultRsp) := by
  simp only [State.clDispatch]
  split
  · rename_i hp
    split
    · exact .inl (State.answered_dropFrame s _)
    split
    · exact .inl (State.answered_respond s _)
    split
    · rename_i hc
      exact .inr ⟨⟨_, _, _, hc ▸ hp⟩, rfl⟩
    · exact .inl (State.answered_dropFrame s _)
  · exact .inl (State.answered_dropFrame s _)

/-- ATTR.WR of a row writes the store, the dirty sets and the return value only (R43). -/
theorem State.writeRow_frame (s : State) (r : AttrRow) (force : Bool) (v : List Byte) :
    s.writeRow r force v = { s with
      store := (s.writeRow r force v).store
      dirty := (s.writeRow r force v).dirty
      ret := (s.writeRow r force v).ret } := by
  unfold State.writeRow
  split
  · rw [State.mark_eq]
    rfl
  · rfl

/-- What the distinct entries of a list are (R212). -/
@[simp] theorem mem_firstSeen {α : Type} [DecidableEq α] {a : α} {l : List α} : a ∈ firstSeen l ↔ a ∈ l := by
  induction l with
  | nil => simp [firstSeen]
  | cons b l ih =>
    simp only [firstSeen, List.mem_cons, List.mem_filter, ih, decide_eq_true_eq]
    by_cases h : a = b <;> simp [h]

theorem firstSeen_nodup {α : Type} [DecidableEq α] (l : List α) : (firstSeen l).Nodup := by
  induction l with
  | nil => simp [firstSeen]
  | cons b l ih => simp [firstSeen, ih.filter]

/-- REPORT writes SEQ, the oracle fields, the trace and the return value only (R43, R216). -/
theorem State.reportAll_frame (s : State) (ep : Byte) :
    s.reportAll ep = { s with
      seq := (s.reportAll ep).seq
      txAnswers := (s.reportAll ep).txAnswers
      freeIdx := (s.reportAll ep).freeIdx
      trace := (s.reportAll ep).trace
      ret := (s.reportAll ep).ret } := by
  simp only [State.reportAll, State.returns_eq]
  rw [sendGroups_frame]

end Sys2Proof.Machine
end

