-- ==== Sys2Proof/Laws/Pseudo.lean ====
section
/-! SUPPORT. The host's programs: running operations one after the other, the endpoints a cycle goes through (R305), and
what a cycle does after a telegram that verified. -/

namespace Sys2Proof.Machine

/-- A cycle goes through exactly the endpoints of ATTR_TABLE, which DIRTY.CLR and REPORT admit (R192, R305). -/
theorem mem_endpoints {c : Config} {ep : Byte} : ep ∈ endpoints c ↔ c.hasEndpoint ep = true := by
  simp only [endpoints, List.mem_filter, List.mem_map, List.mem_range, and_iff_right_iff_imp]
  intro _
  exact ⟨ep.toNat, ep.isLt, by simp⟩

/-- A cycle goes through the endpoints in the order of their numbers, and so through each once. -/
theorem endpoints_rising (c : Config) : (endpoints c).Pairwise (fun a b => a.toNat < b.toNat) := by
  refine List.Pairwise.filter _ (List.pairwise_map.mpr (List.pairwise_lt_range.imp_of_mem ?_))
  intro a b ha hb hab
  have ha' := List.mem_range.mp ha
  have hb' := List.mem_range.mp hb
  simpa [BitVec.toNat_ofNat, Nat.mod_eq_of_lt ha', Nat.mod_eq_of_lt hb'] using hab

/-- The order of the rows of ATTR_TABLE is not significant for a cycle (R33). -/
theorem endpoints_of_perm {c d : Config} (h : c.attrTable.Perm d.attrTable) : endpoints c = endpoints d := by
  have he : c.hasEndpoint = d.hasEndpoint := by
    funext ep
    exact Bool.eq_iff_iff.mpr (by simp [Config.hasEndpoint, h.mem_iff])
  rw [endpoints, endpoints, he]

/-- Operations in sequence run one after the other. -/
theorem runOps_append {a b : List Instr} {s t : State} (h : runOps a s = .next t) : runOps (a ++ b) s = runOps b t := by
  induction a generalizing s with
  | nil =>
    cases h
    rfl
  | cons i is ih =>
    simp only [List.cons_append, runOps] at h ⊢
    split at h
    · exact ih h
    · cases h
    · cases h

/-- A cycle whose telegram was acquired and verified goes on with the parse pass (R117, R305). -/
theorem cycle_of_verified {chunks : List (List Byte)} {parser : List Instr} {s t u : State}
    (ha : acquire chunks s = .next t) (hc : t.fstate = .complete) (hv : exec .tverify t = .next u)
    (ho : u.ret.status = .ok) : cycle chunks parser s = runOps (parsePass s.cfg parser) u := by
  simp only [cycle, ha, if_pos hc, hv, if_pos ho]

end Sys2Proof.Machine
end

