-- ==== Sys2Proof/Tests/Slice0.lean ====
section
/-! SUPPORT. Tests: what WellFormed refuses, decodings of written-out words, one-step vectors of 95_test_vectors.md, and for
every statement with hypotheses a witness that meets them. Expected values are the spec's. -/

namespace Sys2Proof.Tests

open Sys2Proof Sys2Proof.Machine

/-! ### Helpers -/

/-- The example configuration (95_test_vectors.md 1.3). -/
abbrev cfg : Config := Config.default

/-- The state after one operation. -/
def after (i : Instr) (s : State) : State :=
  match exec i s with
  | .next t => t
  | .fault _ => s
  | .refused _ => s

/-- The packet decodes to the instruction. -/
def decodesTo (p : Packet) (i : Instr) : Bool :=
  match decodePacket cfg p with
  | .ok j => decide (i = j)
  | .error _ => false

/-- The host command is refused with the error. -/
def refusedAs (bytes : List Byte) (e : DecodeError) : Bool :=
  match decodeHost bytes with
  | .ok _ => false
  | .error d => decide (d = e)

/-- An acquisition in progress. -/
def acq (f : FState) (n : Nat) (b : List Byte) (j : Option Nat) : State :=
  { State.reset with fstate := f, polls := n, tbuf := b, bang := j, gate := true }

/-- The state with a finite buffer. -/
def withCap (n : Nat) (s : State) : State := { s with cfg := { s.cfg with bufCap := some n } }

/-- A telegram framed. -/
def framed (b : List Byte) (j : Nat) : State := { State.reset with fstate := .complete, tbuf := b, bang := some j }

/-- TA (95 1.4). -/
def ta : List Byte := [0x2F, 0x41, 0x0D, 0x0A, 0x21, 0x38, 0x31, 0x39, 0x36]

/-- TA with a wrong digit (95 2.3). -/
def tx : List Byte := [0x2F, 0x41, 0x0D, 0x0A, 0x21, 0x38, 0x31, 0x39, 0x37]

def kEnergy : Key := ⟨1, 0x0702, 0x0100⟩
def kUnit : Key := ⟨1, 0x0702, 0x0300⟩
def kNone : Key := ⟨1, 0x0702, 0x9999⟩
def v4426 : List Byte := [0x4A, 0x11, 0x00, 0x00, 0x00, 0x00]

/-- Steady, and the transport accepts (95 2.4). -/
def steady : State := { State.reset with firstRun := false, txAnswers := [true, true] }

/-- A measured value, dirty (95 2.5, E1). -/
def measured : State := { after (.attrWr kEnergy false v4426) steady with seq := 0x07 }

/-- The route of the vectors of 95 2.6; its answer goes to the party with the endpoints exchanged. -/
def rt : Route := ⟨0xAB, 7, 1⟩
def rtMg : Route := ⟨0xAB, 0, 0⟩

/-- Delivers a CL payload (95 2.6). -/
def clRx (payload : List Byte) : Instr := .frameRx ⟨rt, 0x0702, 0x0104, payload⟩

/-- Delivers an MG payload (95 2.7). -/
def mgRx (cluster : Half) (payload : List Byte) : Instr := .frameRx ⟨rtMg, cluster, 0x0000, payload⟩

/-- A step under the configuration is refused for it. -/
def refusesConfig (c : Config) : Bool :=
  match step (State.resetWith c) with
  | .refused .illFormedConfig => true
  | _ => false

/-- The frames the operation returned. -/
def framesOf (i : Instr) (s : State) : List (List Byte) :=
  match (after i s).ret.result with
  | .frames l => l.map Prod.fst
  | _ => []

def desc1 : EpDesc := ⟨1, 0x0104, 0x0053, 0, [0x0000, 0x0702, 0x0B04], []⟩

/-! ### WellFormed: each check refuses an ill-formed term -/

theorem test_wf_refuses_host :
    [Instr.reserved04To0F 0x03 [], .reserved04To0F 0x10 [], .reserved14To1F 0x13 [], .reserved14To1F 0x20 [],
      .reserved21To2F 0x20 [], .reserved21To2F 0x30 [], .reserved34To3F 0x33 [], .reserved34To3F 0x40 [],
      .reserved41To4F 0x40 [], .reserved41To4F 0x50 [], .reserved51ToEF 0x50 [], .reserved51ToEF 0xF0 [],
      .reservedF2ToFF 0xF1 []].all (fun i => !i.wf cfg) = true := by decide

theorem test_wf_refuses_cl :
    [Instr.clReadAttr rt 0x0702 0x0000 0 0 [], .clReadAttrRsp rt 0x0702 0x0000 0 [],
      .clReadAttrRsp rt 0x0702 0x0104 0 [.found 0x0100 0x25 [0x00]], .clReportAttr rt 0x0702 0x0000 0 [⟨0x0300, 0x30, [0]⟩],
      .clReportAttr rt 0x0702 0x0104 0 [], .clReportAttr rt 0x0702 0x0104 0 [⟨0x0005, 0x41, [2, 0x5A]⟩],
      .clReportAttr rt 0x0702 0x0104 0 [⟨0x0005, 0xFF, []⟩], .clDefaultRsp rt 0x0702 0x0000 0 0 [],
      .clOther rt 0x0702 0x0000 0 0 0x02 [], .clOther rt 0x0702 0x0104 0 0 0x00 [], .clOther rt 0x0702 0x0104 0 0 0x0B [],
      .clShort rt 0x0702 0x0000 [], .clShort rt 0x0702 0x0104 [0, 0, 0]].all (fun i => !i.wf cfg) = true := by
  decide

theorem test_wf_refuses_mg_and_text :
    [Instr.mgSimpleDescRsp rtMg 0 0 0x0F desc1, .mgActiveEpRsp rtMg 0 0 (List.replicate 256 0x01),
      .mgSimpleDescRsp rtMg 0 0 0x00 ⟨1, 0, 0, 0, List.replicate 256 0x0000, []⟩,
      .mgOther rtMg 0x0004 0 [], .mgOther rtMg 0x8002 0 [], .mgShort rtMg 0x0021 [0x13], .mgShort rtMg 0x0031 [0x22],
      .mgShort rtMg 0x0004 [0x16, 0, 0, 1], .mgShort rtMg 0x0005 [0x12, 0, 0], .mgShort rtMg 0x8000 (List.replicate 12 0),
      .mgShort rtMg 0x8001 (List.replicate 12 0), .telegram [0x21] [0x30, 0x30, 0x30, 0x30],
      .telegram [] [0x30, 0x30, 0x30]].all (fun i => !i.wf cfg) = true := by decide +kernel

/-- R303, R9, R37: one configuration for each condition, and a step under it is refused (93 U7). -/
theorem test_wf_refuses_configurations :
    [{ cfg with n1 := 0 }, { cfg with n2 := 0 }, { cfg with n3 := 0 }, { cfg with bufCap := some 5 }, { cfg with endMark := 0x2F },
      { cfg with wire := { Wire.default with fkResponse := 0x08 } }, { cfg with wire := { Wire.default with cmdReportAttr := 0x0B } },
      { cfg with wire := { Wire.default with stUnsupportedAttr := 0 } }, { cfg with wire := { Wire.default with mgBindReq := 0x8004 } },
      { cfg with wire := { Wire.default with mgBindRsp := 0x8022 } },
      { cfg with attrTable := cfg.attrTable ++ [⟨kUnit, 0x30, none⟩] }, { cfg with attrTable := [⟨kUnit, 0xFF, none⟩] },
      { cfg with attrTable := [⟨kUnit, 0x30, some []⟩] }, { cfg with epTable := cfg.epTable ++ [desc1] },
      { cfg with epTable := [{ desc1 with outClusters := List.replicate 256 0 }] }].all
      (fun c => decide (¬ c.WellFormed) && refusesConfig c) = true := by
  decide +kernel

/-- R9: HDR_LEN and the four response clusters are parameters of their own; a request cluster may have bit 15 set. -/
def otherWire : Config :=
  { cfg with wire := { Wire.default with hdrLen := 5, mgBindReq := 0x9021, mgBindRsp := 0xA021, mgUnbindRsp := 0xA022 } }

/-- R231, R113: with HDR_LEN = 5 a CL frame of 4 bytes is short, one of 5 is not. -/
theorem test_header_length_is_a_parameter :
    otherWire.WellFormed ∧
    decodeDelivery otherWire ⟨rt, 0x0702, 0x0104, [0x00, 0x2A, 0x00, 0x00]⟩
      = .clShort rt 0x0702 0x0104 [0x00, 0x2A, 0x00, 0x00] ∧
    decodeDelivery otherWire ⟨rt, 0x0702, 0x0104, [0x00, 0x2A, 0x00, 0x00, 0x01]⟩
      = .clReadAttr rt 0x0702 0x0104 0x00 0x2A [0x00, 0x01] ∧
    (Instr.clReadAttr rt 0x0702 0x0104 0x00 0x2A [0x00]).wf otherWire = false ∧
    (after (clRx [0x00, 0x2A, 0x00, 0x00]) { State.reset with cfg := otherWire }).err = 4 := by decide

/-- R261, R257: an arm answers to the request's cluster with bit 15 set; R9: a response row has its own cluster. -/
theorem test_response_clusters_are_parameters :
    (after (.mgUnbindReq rtMg 0x14 []) { steady with cfg := otherWire }).trace
      = [.transmit ⟨rtMg, 0x8022, 0x0000, [0x14, 0x00]⟩ true] ∧
    (after (.mgUnbindRsp rtMg 0x14) { steady with cfg := otherWire }).trace
      = [.transmit ⟨rtMg, 0xA022, 0x0000, [0x14, 0x00]⟩ true] := by decide

/-! ### Decoding: words written out from the table (R91, R97, R106, R93) -/

/-- The HOST rows: codes of R91 and R112, operands in the model's layout (log entry 1). -/
theorem test_decode_host :
    ([([0x00], .crcClr), ([0x01, 0x2F], .crcUpd 0x2F), ([0x02], .crcRd), ([0x03, 0x31, 0x32], .csum [0x31, 0x32]),
      ([0x10], .acqStart), ([0x11, 0x2F], .acqPoll [0x2F]), ([0x12], .acqRel), ([0x13], .acqRd), ([0x20], .tverify),
      ([0x30, 0x01, 0x02, 0x07, 0x00, 0x01, 0x01, 0x4A, 0x11], .attrWr kEnergy true [0x4A, 0x11]),
      ([0x31, 0x01, 0x02, 0x07, 0x00, 0x03, 0x00], .attrTouch kUnit false), ([0x32, 0x01, 0x02, 0x07, 0x00, 0x01], .attrRd kEnergy),
      ([0x33, 0x02], .dirtyClr 2), ([0x40, 0x01], .report 1),
      ([0x50, 0xAB, 0, 0, 0, 0, 0, 0, 0, 0x07, 0x01, 0x02, 0x07, 0x04, 0x01, 0x00, 0x2A, 0x00], clRx [0x00, 0x2A, 0x00]),
      ([0xF0], .reset), ([0xF1, 0x01], .cfgPolicy true), ([0x04], .reserved04To0F 0x04 []), ([0x1F, 0x05], .reserved14To1F 0x1F [0x05]),
      ([0x21], .reserved21To2F 0x21 []), ([0x3F], .reserved34To3F 0x3F []), ([0x41], .reserved41To4F 0x41 []),
      ([0x51], .reserved51ToEF 0x51 []), ([0xEF], .reserved51ToEF 0xEF []), ([0xFF], .reservedF2ToFF 0xFF [])]
      : List (List Byte × Instr)).all (fun p => decodesTo (.input (.host p.1)) p.2) = true := by decide

theorem test_decode_host_refusals :
    (refusedAs [] .emptyCommand && refusedAs [0x00, 0x00] .operandLength && refusedAs [0x01] .operandLength &&
      refusedAs [0x31, 0x01, 0x02, 0x07, 0x00, 0x03, 0x02] .operandBit) = true := by decide

/-- The CL rows, payloads of 95 2.6 and frames of 95 2.5 and 2.6. -/
theorem test_decode_cl :
    (decodesTo (.input (.deliver ⟨rt, 0x0702, 0x0104, [0x00, 0x2A, 0x00, 0x00, 0x01, 0x34, 0x12]⟩))
        (.clReadAttr rt 0x0702 0x0104 0x00 0x2A [0x00, 0x01, 0x34, 0x12]) &&
      decodesTo (.output ⟨rt, 0x0702, 0x0104,
        [0x18, 0x2A, 0x01, 0x00, 0x01, 0x00, 0x25, 0x4A, 0x11, 0x00, 0x00, 0x00, 0x00, 0x34, 0x12, 0x86]⟩)
        (.clReadAttrRsp rt 0x0702 0x0104 0x2A [.found 0x0100 0x25 v4426, .unsupported 0x1234]) &&
      decodesTo (.output ⟨rt, 0x0B04, 0x0104, [0x08, 0xFE, 0x0A, 0x05, 0x05, 0x21, 0x01, 0x09, 0x08, 0x05, 0x21, 0x0C, 0x00]⟩)
        (.clReportAttr rt 0x0B04 0x0104 0xFE [⟨0x0505, 0x21, [0x01, 0x09]⟩, ⟨0x0508, 0x21, [0x0C, 0x00]⟩]) &&
      decodesTo (.input (.deliver ⟨rt, 0x0702, 0x0104, [0x08, 0x00, 0x0B, 0x0A, 0x00]⟩))
        (.clDefaultRsp rt 0x0702 0x0104 0x08 0x00 [0x0A, 0x00]) &&
      decodesTo (.input (.deliver ⟨rt, 0x0702, 0x0104, [0x00, 0x2E, 0x02, 0x00]⟩))
        (.clOther rt 0x0702 0x0104 0x00 0x2E 0x02 [0x00]) &&
      decodesTo (.input (.deliver ⟨rt, 0x0702, 0x0104, [0x00, 0x2D]⟩)) (.clShort rt 0x0702 0x0104 [0x00, 0x2D])) = true := by
  decide

/-- The MG rows, payloads and responses of 95 2.7. -/
theorem test_decode_mg_inbound :
    ([(0x0004, [0x11, 0x00, 0x00, 0x01], .mgSimpleDescReq rtMg 0x11 0x0000 0x01 []),
      (0x0005, [0x12, 0x34, 0x12], .mgActiveEpReq rtMg 0x12 0x1234 []),
      (0x0021, [0x13, 0xAA], .mgBindReq rtMg 0x13 [0xAA]), (0x0022, [0x14], .mgUnbindReq rtMg 0x14 []),
      (0x8001, [0x20, 0x00, 0xEF, 0xCD, 0xAB, 0x89, 0x67, 0x45, 0x23, 0x01, 0x34, 0x12],
        .mgIeeeAddrRsp rtMg 0x20 0x00 0x0123456789ABCDEF 0x1234 []),
      (0x8000, [0x20, 0x00, 0xEF, 0xCD, 0xAB, 0x89, 0x67, 0x45, 0x23, 0x01, 0x34, 0x12, 0xEE],
        .mgNwkAddrRsp rtMg 0x20 0x00 0x0123456789ABCDEF 0x1234 [0xEE]),
      (0x8002, [0x21, 0x00], .mgNodeDescRsp rtMg 0x21 [0x00]), (0x0031, [0x22], .mgOther rtMg 0x0031 0x22 []),
      (0x8001, [0x20, 0x00, 0xEF, 0xCD], .mgShort rtMg 0x8001 [0x20, 0x00, 0xEF, 0xCD]), (0x0005, [], .mgShort rtMg 0x0005 [])]
      : List (Half × List Byte × Instr)).all
      (fun p => decodesTo (.input (.deliver ⟨rtMg, p.1, 0x0000, p.2.1⟩)) p.2.2) = true := by decide

theorem test_decode_mg_outbound :
    ([(0x8004, [0x11, 0x00, 0x00, 0x00, 0x0E, 0x01, 0x04, 0x01, 0x53, 0x00, 0x00, 0x03, 0x00, 0x00, 0x02, 0x07, 0x04, 0x0B, 0x00],
        .mgSimpleDescRsp rtMg 0x11 0x0000 0x0E desc1),
      (0x8005, [0x12, 0x00, 0x00, 0x00, 0x02, 0x01, 0x02], .mgActiveEpRsp rtMg 0x12 0x0000 [0x01, 0x02]),
      (0x8021, [0x13, 0x00], .mgBindRsp rtMg 0x13), (0x8022, [0x14, 0x00], .mgUnbindRsp rtMg 0x14)]
      : List (Half × List Byte × Instr)).all
      (fun p => decodesTo (.output ⟨rtMg, p.1, 0x0000, p.2.1⟩) p.2.2) = true := by decide

theorem test_decode_telegram :
    decodesTo (.input (.text ta)) (.telegram [0x41, 0x0D, 0x0A] [0x38, 0x31, 0x39, 0x36]) = true := by decide

/-! ### One-step vectors -/

/-- 95 2.1: one step of the checksum, and the check value of CRC-16/ARC. -/
theorem test_crc_upd : (after (.crcUpd 0x41) { State.reset with crc := 0xDC41 }).crc = 0x00DC := by decide

theorem test_crc_clr_and_rd :
    (after .crcClr { State.reset with crc := 0xDC41 }).crc = 0 ∧
    (after .crcRd { State.reset with crc := 0xDC41 }).ret.result = .word 0xDC41 := by decide

theorem test_csum :
    (after (.csum [0x31, 0x32, 0x33, 0x34, 0x35, 0x36, 0x37, 0x38, 0x39]) State.reset).ret.result = .word 0xBB3D := by
  decide

/-- 95 2.2: ACQ.START in COMPLETE loses the telegram. -/
theorem test_acq_start : (after .acqStart (framed ta 4)).fstate = .scanning ∧ (after .acqStart (framed ta 4)).tbuf = [] := by
  decide

/-- 95 2.2, F3: an end marker before the start marker is no end marker. -/
theorem test_acq_poll_drops_what_precedes :
    (after (.acqPoll ([0x0D, 0x0A, 0x21, 0x30, 0x30, 0x30, 0x30, 0x0D, 0x0A] ++ ta ++ [0x0D, 0x0A, 0x2F, 0x42]))
      (acq .scanning 0 [] none)).tbuf = ta := by decide

/-- 95 2.2, F16: 9 + 7 bytes exceed a buffer of 10. -/
theorem test_acq_poll_overflow :
    (after (.acqPoll (List.replicate 7 0x49)) (withCap 10 (acq .body 0 (0x2F :: List.replicate 8 0x41) none))).err = 7 := by
  decide

theorem test_acq_rel : (after .acqRel (framed ta 4)).fstate = .idle ∧ (after .acqRel (acq .body 0 [0x2F] none)).err = 6 := by
  decide

theorem test_acq_rd : (after .acqRd (framed ta 4)).ret.result = .bytes ta ∧ (after .acqRd State.reset).err = 6 := by
  decide

/-- 95 2.3. -/
theorem test_tverify : (after .tverify (framed ta 4)).ret.status = .ok ∧ (after .tverify (framed tx 4)).err = 2 := by
  decide

/-- 95 2.3: lower-case digits, a field that is no hex number, an empty covered part. -/
theorem test_valid :
    valid [0x2F, 0x21, 0x32, 0x38, 0x64, 0x63] = true ∧ valid [0x2F, 0x41, 0x0D, 0x0A, 0x21, 0x38, 0x31, 0x39, 0x47] = false ∧
    valid [0x30, 0x30, 0x30, 0x30] = true ∧ valid [0x30, 0x30, 0x30] = false := by decide

/-- 95 2.4, lines 2 and 6: marked when it was unset; equal and forced, marked and not listed twice. -/
theorem test_attr_wr :
    (after (.attrWr kEnergy false v4426) steady).dirtyOf 1 = [kEnergy] ∧
    (after (.attrWr kEnergy true v4426) measured).dirtyOf 1 = [kEnergy] := by decide

/-- 95 2.4, line 3, and the refusal of 2 bytes for a 6-byte tag. -/
theorem test_attr_wr_equal_and_ill_formed :
    (after (.attrWr kEnergy false v4426) measured).ret.result = .marked false ∧
    (after (.attrWr kEnergy false [0x4A, 0x11]) measured).err = 6 := by decide

/-- R104, the worked example of the source: "000004.426" is 4426, written in 6 bytes; the first integer that needs 7 is
no value of the tag (U6). -/
theorem test_numeric_value :
    digitsValue [0x30, 0x30, 0x30, 0x30, 0x30, 0x34, 0x2E, 0x34, 0x32, 0x36] = some 4426 ∧
    numericWrite cfg kEnergy false 4426 = some (.attrWr kEnergy false v4426) ∧
    numericWrite cfg kEnergy false 0xFFFFFFFFFFFF = some (.attrWr kEnergy false (List.replicate 6 0xFF)) ∧
    numericWrite cfg kEnergy false 0x1000000000000 = none := by decide

/-- 95 2.4, lines 8 and 9. -/
theorem test_attr_touch :
    (after (.attrTouch kUnit false) measured).dirtyOf 1 = [kEnergy] ∧
    (after (.attrTouch kUnit true) measured).dirtyOf 1 = [kEnergy, kUnit] := by decide

/-- 95 2.4, lines 1, 12, 13. -/
theorem test_attr_rd :
    (after (.attrRd kEnergy) steady).ret.result = .attr 0x25 none ∧
    (after (.attrRd kEnergy) measured).ret.result = .attr 0x25 (some v4426) ∧
    (after (.attrRd kNone) steady).ret.result = .absent := by decide

theorem test_dirty_clr : (after (.dirtyClr 1) measured).dirtyOf 1 = [] ∧ (after (.dirtyClr 3) measured).err = 6 := by
  decide

/-- 95 2.5, E1 and E6. -/
theorem test_report :
    (after (.report 1) measured).ret.result
      = .reports [([0x08, 0x07, 0x0A, 0x00, 0x01, 0x25, 0x4A, 0x11, 0x00, 0x00, 0x00, 0x00], 0x0702, true)] ∧
    (after (.report 1) measured).seq = 0x08 ∧ (after (.report 1) { measured with txAnswers := [false] }).seq = 0x07 := by
  decide

/-- 95 2.5, E8: the sequence number wraps. -/
theorem test_report_wraps : (after (.report 1) { measured with seq := 0xFF }).seq = 0x00 := by decide

/-- 95 2.6, D2: an unknown and an unset attribute are unsupported, the odd byte is ignored. -/
theorem test_frame_rx_read_attr :
    framesOf (clRx [0x00, 0x2A, 0x00, 0x00, 0x01, 0x34, 0x12, 0x00, 0x00, 0x00, 0x03, 0xFF]) measured
      = [[0x18, 0x2A, 0x01, 0x00, 0x01, 0x00, 0x25, 0x4A, 0x11, 0x00, 0x00, 0x00, 0x00, 0x34, 0x12, 0x86, 0x00, 0x00, 0x86,
          0x00, 0x03, 0x00, 0x30, 0x00]] := by decide

/-- 95 2.6, D8, D7, D6. -/
theorem test_cl_arms :
    (after (.clDefaultRsp rt 0x0702 0x0104 0x08 0x00 [0x0A, 0x00]) State.reset).firstRun = false ∧
    (after (.clOther rt 0x0702 0x0104 0x00 0x2E 0x02 [0x00]) State.reset).trace = [.log (.unknownClCommand 0x02)] ∧
    (after (.clShort rt 0x0702 0x0104 [0x00, 0x2D]) State.reset).err = 4 := by decide

/-- 95 2.6, D1: the response leaves by the exchanged route. -/
theorem test_cl_read_attr_and_rsp :
    (after (.clReadAttr rt 0x0702 0x0104 0x00 0x2D []) steady).trace
      = [.transmit ⟨⟨0xAB, 1, 7⟩, 0x0702, 0x0104, [0x18, 0x2D, 0x01]⟩ true] ∧
    framesOf (.clReadAttrRsp rt 0x0702 0x0104 0x2C [.unsupported 0x0100, .found 0x0300 0x30 [0x01]]) steady
      = [[0x18, 0x2C, 0x01, 0x00, 0x01, 0x86, 0x00, 0x03, 0x00, 0x30, 0x01]] := by decide

/-- 95 2.5, E4: the shortest report frame. -/
theorem test_cl_report_attr :
    (after (.clReportAttr ⟨0, 2, 1⟩ 0x0702 0x0104 0x00 [⟨0x0300, 0x30, [0x01]⟩]) steady).seq = 0x01 ∧
    (after (.clReportAttr ⟨0, 2, 1⟩ 0x0702 0x0104 0x00 [⟨0x0300, 0x30, [0x01]⟩]) steady).ret.result
      = .reports [([0x08, 0x00, 0x0A, 0x00, 0x03, 0x30, 0x01], 0x0702, true)] := by decide

/-- 95 2.7, M1, M2, M3. -/
theorem test_mg_simple_desc :
    framesOf (mgRx 0x0004 [0x11, 0x00, 0x00, 0x01]) steady
      = [[0x11, 0x00, 0x00, 0x00, 0x0E, 0x01, 0x04, 0x01, 0x53, 0x00, 0x00, 0x03, 0x00, 0x00, 0x02, 0x07, 0x04, 0x0B, 0x00]] ∧
    framesOf (.mgSimpleDescReq rtMg 0x15 0x0000 0x02 []) steady
      = [[0x15, 0x00, 0x00, 0x00, 0x0A, 0x02, 0x04, 0x01, 0x53, 0x00, 0x00, 0x01, 0x02, 0x07, 0x00]] ∧
    (after (.mgSimpleDescReq rtMg 0x16 0x0000 0x03 []) steady).trace = [.log .unknownEndpoint] := by decide

/-- 95 2.7, M5, M6, M7. -/
theorem test_mg_requests :
    framesOf (.mgActiveEpReq rtMg 0x12 0x0000 []) steady = [[0x12, 0x00, 0x00, 0x00, 0x02, 0x01, 0x02]] ∧
    (after (.mgBindReq rtMg 0x13 [0xAA]) steady).trace = [.transmit ⟨rtMg, 0x8021, 0x0000, [0x13, 0x00]⟩ true] ∧
    (after (.mgUnbindReq rtMg 0x14 []) steady).trace = [.transmit ⟨rtMg, 0x8022, 0x0000, [0x14, 0x00]⟩ true] := by
  decide

/-- The frames of 95 2.7, M1, M5, M6, M7, handed over as rows of their own (log entry 6). -/
theorem test_mg_responses :
    framesOf (.mgSimpleDescRsp rtMg 0x15 0x0000 0x0A ⟨2, 0x0104, 0x0053, 0, [0x0702], []⟩) steady
      = [[0x15, 0x00, 0x00, 0x00, 0x0A, 0x02, 0x04, 0x01, 0x53, 0x00, 0x00, 0x01, 0x02, 0x07, 0x00]] ∧
    framesOf (.mgActiveEpRsp rtMg 0x12 0x0000 [0x01, 0x02]) steady = [[0x12, 0x00, 0x00, 0x00, 0x02, 0x01, 0x02]] ∧
    (after (.mgBindRsp rtMg 0x13) steady).trace = [.transmit ⟨rtMg, 0x8021, 0x0000, [0x13, 0x00]⟩ true] ∧
    (after (.mgUnbindRsp rtMg 0x14) steady).trace = [.transmit ⟨rtMg, 0x8022, 0x0000, [0x14, 0x00]⟩ true] := by
  decide

/-- 95 2.7, M8 and M10. -/
theorem test_mg_address_responses :
    (after (mgRx 0x8001 [0x20, 0x00, 0xEF, 0xCD, 0xAB, 0x89, 0x67, 0x45, 0x23, 0x01, 0x34, 0x12]) steady).peer
      = some ⟨0x0123456789ABCDEF, 0x1234⟩ ∧
    (after (.mgNwkAddrRsp rtMg 0x20 0x00 0x0123456789ABCDEF 0x1234 []) steady).peer = some ⟨0x0123456789ABCDEF, 0x1234⟩ ∧
    (after (.mgIeeeAddrRsp rtMg 0x20 0x00 0x0123456789ABCDEF 0x1234 []) steady).peer = some ⟨0x0123456789ABCDEF, 0x1234⟩ ∧
    (after (mgRx 0x8001 [0x20, 0x00, 0xEF, 0xCD]) steady).peer = none := by decide

/-- 95 2.7, M11, M12, M13. -/
theorem test_mg_notifications_and_drops :
    (after (.mgNodeDescRsp rtMg 0x21 [0x00]) steady).trace = [] ∧
    (after (.mgOther rtMg 0x0031 0x22 []) steady).trace = [.log (.unknownMgCommand 0x0031)] ∧
    (after (.mgShort rtMg 0x0005 []) steady).trace = [.log .shortFrame] := by decide

/-- 95 2.8. -/
theorem test_reset_and_policy :
    (after .reset (acq .tail 2 ta (some 4))).trace = [.setReady false] ∧
    (after .reset measured).value kEnergy = none ∧ (after (.cfgPolicy true) steady).alwaysPublish = true := by decide

/-- 95 2.2: a reserved code, for each of the seven ranges. -/
theorem test_reserved :
    [Instr.reserved04To0F 0x04 [], .reserved14To1F 0x14 [], .reserved21To2F 0x21 [], .reserved34To3F 0x34 [],
      .reserved41To4F 0x41 [], .reserved51ToEF 0x51 [], .reservedF2ToFF 0xF2 []].all (fun i => (after i steady).err == 6) = true := by
  decide

/-- 95 2.2, F1, as the row TELEGRAM (log entry 8). -/
theorem test_telegram :
    (after (.telegram [0x41, 0x0D, 0x0A] [0x38, 0x31, 0x39, 0x36]) (acq .scanning 9 [] none)).bang = some 4 := by decide

/-- R117's expansion for the source's two endpoints, also with the rows in another order (R33), and R305's "each endpoint"
for a table with a third one. -/
theorem test_parse_pass :
    parsePass cfg [] = [.dirtyClr 1, .dirtyClr 2, .acqRd, .acqRel, .report 1, .report 2] ∧
    parsePass { cfg with attrTable := cfg.attrTable.reverse } [] = parsePass cfg [] ∧
    endpoints { cfg with attrTable := ⟨⟨3, 0x0702, 0x0000⟩, 0x25, none⟩ :: cfg.attrTable } = [1, 2, 3] := by decide

/-! ### Witnesses: for each statement with hypotheses, operands and a state that meet them, for each of its clauses -/

/-- One well-formed instruction for each constructor, by format. -/
def sampleHost : List Instr :=
  [.crcClr, .crcUpd 0x2F, .crcRd, .csum [0x31], .acqStart, .acqPoll ta, .acqRel, .acqRd, .tverify, .attrWr kEnergy true v4426,
    .attrTouch kUnit false, .attrRd kNone, .dirtyClr 1, .report 2, clRx [0x00, 0x2A], .reset, .cfgPolicy true,
    .reserved04To0F 0x0F [], .reserved14To1F 0x14 [0x01], .reserved21To2F 0x2F [], .reserved34To3F 0x34 [],
    .reserved41To4F 0x4F [], .reserved51ToEF 0xEF [], .reservedF2ToFF 0xF2 []]

def sampleCl : List Instr :=
  [.clReadAttr rt 0x0702 0x0104 0x00 0x2A [0x00], .clReadAttrRsp rt 0x0702 0x0104 0x2A [.found 0x0005 0x41 [0x01, 0x5A], .unsupported 1],
    .clReportAttr rt 0x0702 0x0104 0xFF [⟨0x0100, 0x25, v4426⟩], .clDefaultRsp rt 0x0702 0x0104 0x08 0x00 [],
    .clOther rt 0x0702 0x0104 0x00 0x00 0x0A [], .clShort rt 0x0702 0x0104 [0x00, 0x2D]]

def sampleMgText : List Instr :=
  [.mgSimpleDescReq rtMg 0x11 0x1234 0x01 [], .mgSimpleDescRsp rtMg 0x11 0x1234 0x0E desc1, .mgActiveEpReq rtMg 0x12 0x1234 [],
    .mgActiveEpRsp rtMg 0x12 0x1234 (List.replicate 255 0x07), .mgBindReq rtMg 0x13 [], .mgBindRsp rtMg 0x13, .mgUnbindReq rtMg 0x14 [],
    .mgUnbindRsp rtMg 0x14, .mgNwkAddrRsp rtMg 0x20 0x00 0x0123456789ABCDEF 0x1234 [],
    .mgIeeeAddrRsp rtMg 0x20 0x00 0x0123456789ABCDEF 0x1234 [0x00], .mgNodeDescRsp rtMg 0x21 [], .mgOther rtMg 0x8004 0x11 [],
    .mgShort rtMg 0x8001 (List.replicate 11 0x00), .telegram [0x2F] [0x30, 0x30, 0x30, 0x30]]

def sample : List Instr := sampleHost ++ sampleCl ++ sampleMgText

theorem test_witness_cfg : cfg.WellFormed := by decide

theorem test_witness_DecodeOfEncodeIsTheInstruction :
    cfg.WellFormed ∧ sample.length = 44 ∧ sample.all (Instr.wf cfg) = true ∧
    sample.all (fun i => decodesTo (encode cfg i) i) = true := ⟨test_witness_cfg, by decide +kernel⟩

theorem test_witness_HostCommandsAreWrittenInOneWay : decodeHost [0x01, 0x2F] = .ok (.crcUpd 0x2F) := rfl

theorem test_witness_DecodedInstructionsAreWellFormed : decode cfg (.host [0x14]) = .ok (.reserved14To1F 0x14 []) := rfl

theorem test_witness_ReservedCodesAreIllegalOperations :
    ∀ code ∈ [0x04, 0x0F, 0x14, 0x1F, 0x21, 0x2F, 0x34, 0x3F, 0x41, 0x4F, 0x51, 0xEF, 0xF2, (0xFF : Byte)],
      code ∉ [0x00, 0x01, 0x02, 0x03, 0x10, 0x11, 0x12, 0x13, 0x20, 0x30, 0x31, 0x32, 0x33, 0x40, 0x50, 0xF0, (0xF1 : Byte)] := by
  decide

theorem test_witness_ReadRequestIdsAreLittleEndianPairs : 0 < [0x34, 0x12, (0xFF : Byte)].length / 2 := by decide

theorem test_witness_StepRunsTheDecodedInput :
    cfg.WellFormed ∧ { State.reset with pending := [.host [0x10]] }.pending = .host [0x10] :: [] ∧
    decode cfg (.host [0x10]) = .ok .acqStart := ⟨test_witness_cfg, rfl, rfl⟩

theorem test_witness_StepWithoutInputChangesNothing : State.reset.cfg.WellFormed ∧ State.reset.pending = [] :=
  ⟨test_witness_cfg, rfl⟩

/-- The invariant of a state of an acquisition, in BODY and one poll short of its budget. -/
theorem test_witness_inv : (acq .body 99 [0x2F] none).Inv :=
  ⟨test_witness_cfg, by decide, by decide, by decide, by decide, by decide⟩

/-- The state after one step. -/
def stepped (s : State) : Option State :=
  match step s with
  | .next t => some t
  | .fault _ => none
  | .refused _ => none

/-- A step of that state: the last poll of BODY times out. -/
theorem test_witness_EveryStepKeepsTheInvariant :
    { acq .body 99 [0x2F] none with pending := [.host [0x11]] }.Inv ∧
    (stepped { acq .body 99 [0x2F] none with pending := [.host [0x11]] }).map (fun t => t.err) = some 1 :=
  ⟨test_witness_inv, by decide⟩

/-- Every operation answers the state `after` names. -/
theorem test_exec_after (i : Instr) (s : State) : exec i s = .next (after i s) := by
  cases i <;> rfl

theorem test_witness_GateCallsAreTheChangesOfTheGate :
    exec .acqStart State.reset = .next (after .acqStart State.reset) ∧ gateReplay false State.reset.trace = some State.reset.gate :=
  ⟨rfl, rfl⟩

/-- Each element is written by one of its operations. -/
theorem test_witness_EachElementIsWrittenOnlyByItsOperations :
    (∀ i s, exec i s = .next (after i s)) ∧
    (after (.crcUpd 0x01) steady).crc ≠ steady.crc ∧ (after .acqStart steady).fstate ≠ steady.fstate ∧
    (after (.report 1) measured).seq ≠ measured.seq ∧ (after (.cfgPolicy true) steady).alwaysPublish ≠ steady.alwaysPublish ∧
    (after (.attrWr kEnergy false v4426) steady).store ≠ steady.store ∧
    (after (.attrTouch kUnit true) steady).dirty ≠ steady.dirty ∧
    (after (.mgNwkAddrRsp rtMg 0 0 1 1 []) steady).peer ≠ steady.peer ∧
    (after .acqStart steady).gate ≠ steady.gate ∧ (after .acqRd steady).err ≠ steady.err ∧
    (after (clRx [0x08, 0x00, 0x0B]) State.reset).firstRun ≠ State.reset.firstRun ∧
    (after .tverify (framed tx 4)).tbuf ≠ (framed tx 4).tbuf :=
  ⟨test_exec_after, by decide⟩

theorem test_witness_ErrRecordsTheLastErrorOutcome :
    exec .acqRd State.reset = .next (after .acqRd State.reset) ∧ (after .acqRd State.reset).ret.status ≠ .ok ∧
    exec .crcRd State.reset = .next (after .crcRd State.reset) ∧ (after .crcRd State.reset).ret.status = .ok ∧
    Instr.crcRd ≠ .acqStart ∧ Instr.crcRd ≠ .reset := ⟨rfl, by decide, rfl, by decide⟩

theorem test_witness_FirstRunChangesOnlyByAcknowledgementAndReset :
    exec .reset steady = .next (after .reset steady) ∧ steady.firstRun = false ∧ (after .reset steady).firstRun = true ∧
    exec (clRx [0x08, 0x00, 0x0B]) State.reset = .next (after (clRx [0x08, 0x00, 0x0B]) State.reset) ∧
    State.reset.firstRun = true ∧ (after (clRx [0x08, 0x00, 0x0B]) State.reset).firstRun = false :=
  ⟨rfl, rfl, by decide, rfl, rfl, by decide⟩

theorem test_witness_PeerInfluencesNothing :
    exec (.mgActiveEpReq rtMg 0x12 0 []) steady = .next (after (.mgActiveEpReq rtMg 0x12 0 []) steady) := rfl

theorem test_witness_AccumulatorInfluencesOnlyItsOperations :
    Instr.csum [0x31] ≠ .crcRd ∧ (∀ b, Instr.csum [0x31] ≠ .crcUpd b) ∧
    exec (.csum [0x31]) steady = .next (after (.csum [0x31]) steady) := ⟨by decide, fun _ => nofun, rfl⟩

/-- The clauses in order: polls left, none left, overflow by one byte, no end marker, TAIL one byte short, COMPLETE. -/
theorem test_witness_PollInScanning :
    (acq .scanning 8 [] none).fstate = .scanning ∧ cfg.startMark ∉ ([0x41] : List Byte) ∧
    (acq .scanning 8 [] none).polls + 1 ≠ cfg.n1 ∧ (acq .scanning 9 [] none).polls + 1 = cfg.n1 ∧
    ([0x41] ++ ta : List Byte) = [0x41] ++ cfg.startMark :: ta.tail ∧
    (withCap 8 State.reset).cfg.fits (ta.tail.length + 1) = false ∧ (withCap 9 State.reset).cfg.fits (ta.tail.length + 1) = true ∧
    cfg.endMark ∉ cfg.startMark :: ([0x41] : List Byte) ∧
    findByte cfg.endMark (cfg.startMark :: ta.tail) = some 4 ∧ findByte cfg.endMark (cfg.startMark :: ta.tail.dropLast) = some 4 ∧
    ta.tail.dropLast.length + 1 < 4 + 1 + cfg.csumDigits ∧ 4 + 1 + cfg.csumDigits ≤ ta.tail.length + 1 := by decide

theorem test_witness_PollInBody :
    (acq .body 98 [0x2F] none).fstate = .body ∧ (withCap 1 State.reset).cfg.fits ([0x2F] ++ [(0x41 : Byte)]).length = false ∧
    (withCap 2 State.reset).cfg.fits ([0x2F] ++ [(0x41 : Byte)]).length = true ∧ cfg.endMark ∉ ([0x2F] ++ [0x41] : List Byte) ∧
    (acq .body 98 [0x2F] none).polls + 1 ≠ cfg.n2 ∧ (acq .body 99 [0x2F] none).polls + 1 = cfg.n2 ∧
    findByte cfg.endMark ([0x2F] ++ ta.tail) = some 4 ∧ findByte cfg.endMark ([0x2F] ++ ta.tail.dropLast) = some 4 ∧
    ([0x2F] ++ ta.tail.dropLast).length < 4 + 1 + cfg.csumDigits ∧ 4 + 1 + cfg.csumDigits ≤ ([0x2F] ++ ta.tail).length := by
  decide

theorem test_witness_PollInTail :
    (acq .tail 8 ta.dropLast (some 4)).fstate = .tail ∧ (acq .tail 8 ta.dropLast (some 4)).bang = some 4 ∧
    (withCap 8 State.reset).cfg.fits (ta.dropLast ++ [(0x36 : Byte)]).length = false ∧
    cfg.fits (ta.dropLast ++ []).length = true ∧ (ta.dropLast ++ []).length < 4 + 1 + cfg.csumDigits ∧
    (acq .tail 8 ta.dropLast (some 4)).polls + 1 ≠ cfg.n3 ∧ (acq .tail 9 ta.dropLast (some 4)).polls + 1 = cfg.n3 ∧
    4 + 1 + cfg.csumDigits ≤ (ta.dropLast ++ [(0x36 : Byte)]).length := by decide

theorem test_witness_ReleaseAndReadOnlyWhereAdmitted :
    (framed ta 4).fstate = .complete ∧ State.reset.fstate = .idle ∧ (acq .tail 0 ta (some 4)).fstate ≠ .complete ∧
    (acq .tail 0 ta (some 4)).fstate ≠ .idle ∧ (acq .scanning 0 [] none).fstate ≠ .complete ∧
    (acq .scanning 0 [] none).fstate ≠ .idle := by decide

theorem test_witness_FramerTransitionsAreComplete :
    exec (.acqPoll ta) (acq .scanning 0 [] none) = .next (after (.acqPoll ta) (acq .scanning 0 [] none)) ∧
    (after (.acqPoll ta) (acq .scanning 0 [] none)).fstate ≠ (acq .scanning 0 [] none).fstate := ⟨rfl, by decide⟩

theorem test_witness_AcquisitionEndsWithinItsBudgets :
    State.reset.cfg.WellFormed ∧ (List.replicate 120 ([] : List Byte)).length = cfg.n1 + cfg.n2 + cfg.n3 :=
  ⟨test_witness_cfg, by decide⟩

theorem test_witness_AcquisitionWaitIsBounded :
    State.reset.cfg.WellFormed ∧ exec .acqStart State.reset = .next (after .acqStart State.reset) := ⟨test_witness_cfg, rfl⟩

theorem test_witness_BodyWithoutEndMarkerTimesOut :
    (acq .body 0 [0x2F] none).Inv ∧ (acq .body 0 [0x2F] none).fstate = .body ∧ (acq .body 0 [0x2F] none).polls = 0 ∧
    (List.replicate 100 [(0x78 : Byte)]).length = cfg.n2 ∧ (∀ c ∈ List.replicate 100 [(0x78 : Byte)], cfg.endMark ∉ c) ∧
    cfg.fits ([0x2F] ++ (List.replicate 100 [(0x78 : Byte)]).flatten).length = true ∧ 99 < cfg.n2 :=
  ⟨⟨test_witness_cfg, by decide, by decide, by decide, by decide, by decide⟩,
    by decide⟩

/-- 95 2.2, F10 (the start marker in poll N1) and F11 (one poll later), each with a byte after the telegram. -/
theorem test_witness_ChunkingDoesNotMatter :
    cfg.WellFormed ∧ cfg.startMark ∉ ([] : List Byte) ∧ cfg.endMark ∉ ([0x41, 0x0D, 0x0A] : List Byte) ∧
    ([0x38, 0x31, 0x39, 0x36] : List Byte).length = cfg.csumDigits ∧
    (List.replicate 9 [] ++ [ta, [0x0D]]).flatten
      = [] ++ (telegramBytes cfg [0x41, 0x0D, 0x0A] [0x38, 0x31, 0x39, 0x36] ++ [0x0D]) ∧
    (List.replicate 10 [] ++ [ta, [0x0D]]).flatten
      = [] ++ (telegramBytes cfg [0x41, 0x0D, 0x0A] [0x38, 0x31, 0x39, 0x36] ++ [0x0D]) ∧
    cfg.fits (telegramBytes cfg [0x41, 0x0D, 0x0A] [0x38, 0x31, 0x39, 0x36] ++ [0x0D]).length = true ∧
    chunkOf 0 (List.replicate 9 [] ++ [ta, [0x0D]]) = cfg.n1 ∧ chunkOf 4 (List.replicate 9 [] ++ [ta, [0x0D]]) = 10 ∧
    chunkOf 8 (List.replicate 9 [] ++ [ta, [0x0D]]) = 10 ∧ ¬ chunkOf 0 (List.replicate 10 [] ++ [ta, [0x0D]]) ≤ cfg.n1 :=
  ⟨test_witness_cfg, by decide⟩

theorem test_witness_TelegramInOneChunkIsFramed :
    (acq .scanning 9 [] none).fstate = .scanning ∧ cfg.startMark ≠ cfg.endMark ∧
    (Instr.telegram [0x41, 0x0D, 0x0A] [0x38, 0x31, 0x39, 0x36]).wf cfg = true ∧
    cfg.fits (telegramBytes cfg [0x41, 0x0D, 0x0A] [0x38, 0x31, 0x39, 0x36]).length = true := by decide

theorem test_witness_TverifyKeepsOrDiscards :
    (framed ta 4).fstate = .complete ∧ valid (framed ta 4).tbuf = true ∧ valid (framed tx 4).tbuf = false ∧
    State.reset.fstate ≠ .complete := by decide

/-- The last poll of each budget, and a telegram that does not verify. -/
theorem test_witness_TimeoutAndMismatchAreRaisedAsListed :
    (∀ c s, exec (.acqPoll c) s = .next (after (.acqPoll c) s)) ∧ (∀ s, exec .tverify s = .next (after .tverify s)) ∧
    (after (.acqPoll [0x41]) (acq .scanning 9 [] none)).ret.status = .acquisitionTimeout ∧
    (after (.acqPoll [0x41]) (acq .body 99 [0x2F] none)).ret.status = .acquisitionTimeout ∧
    (after (.acqPoll []) (acq .tail 9 ta.dropLast (some 4))).ret.status = .acquisitionTimeout ∧
    (after (.acqPoll [0x36]) (acq .tail 9 ta.dropLast (some 4))).ret.status = .ok ∧
    (after .tverify (framed tx 4)).ret.status = .checksumMismatch :=
  ⟨fun c s => test_exec_after (.acqPoll c) s, fun s => test_exec_after .tverify s, by decide⟩

/-- The state after an acquisition. -/
def acquired (chunks : List (List Byte)) (s : State) : Option State :=
  match acquire chunks s with
  | .next t => some t
  | .fault _ => none
  | .refused _ => none

/-- A telegram that does not verify, and an acquisition that timed out. -/
theorem test_witness_FailedCycleLeavesTheStoreAlone :
    (acquired [tx] measured).map (fun t => valid t.tbuf) = some false ∧
    (acquired (List.replicate 10 []) measured).map (fun t => t.fstate) = some .idle := by decide

theorem test_witness_AttrWrMarksAndStores :
    measured.cfg.row kEnergy = some ⟨kEnergy, 0x25, none⟩ ∧ measured.cfg.valueWf 0x25 v4426 = true ∧
    measured.cfg.width 0x25 = .fixed 6 ∧ 0xFFFFFFFFFFFF < 256 ^ 6 ∧
    Sparse.Sorted measured.store ∧ Sparse.Sorted measured.dirty ∧ kUnit ≠ kEnergy ∧ (2 : Byte) ≠ kEnergy.ep := by decide

theorem test_witness_AttrTouchMarksOnly :
    measured.cfg.row kUnit = some ⟨kUnit, 0x30, some [0x00]⟩ ∧ Sparse.Sorted measured.dirty ∧ (2 : Byte) ≠ kUnit.ep := by
  decide

theorem test_witness_AttrRdReturnsTagAndValue :
    measured.cfg.row kEnergy = some ⟨kEnergy, 0x25, none⟩ ∧ measured.cfg.row kNone = none := by decide

theorem test_witness_DirtyClrEmptiesOneSet :
    measured.cfg.hasEndpoint 1 = true ∧ Sparse.Sorted measured.dirty ∧ (2 : Byte) ≠ 1 := by decide

theorem test_witness_StoreRefusals :
    measured.cfg.row kNone = none ∧ measured.cfg.row kEnergy = some ⟨kEnergy, 0x25, none⟩ ∧
    measured.cfg.valueWf 0x25 [0x4A, 0x11, 0x00, 0x00, 0x00] = false ∧ measured.cfg.hasEndpoint 3 = false := by decide

/-- A pass with a write, a touch and an ill-formed write; the second list writes two values to one key. -/
theorem test_witness_RepeatedParsePassMarksNothing :
    measured.Inv ∧ measured.firstRun = false ∧ measured.alwaysPublish = false ∧
    (∀ i ∈ [Instr.attrWr kEnergy false v4426, .attrTouch kUnit false], unforcedWrite i = true) ∧
    OneValueEach [.attrWr kEnergy false v4426, .attrTouch kUnit false] := by
  refine ⟨⟨test_witness_cfg, by decide, by decide, by decide, by decide, by decide⟩,
    rfl, rfl, by decide, ?_⟩
  intro k i hi j hj u v hu hv
  simp only [List.mem_cons, List.not_mem_nil, or_false] at hi hj
  rcases hi with rfl | rfl <;> rcases hj with rfl | rfl <;> simp_all [writtenTo]

theorem test_witness_RepeatedParsePassAsWorded :
    measured.Inv ∧ measured.firstRun = false ∧ measured.alwaysPublish = false ∧
    (∀ i ∈ [Instr.attrWr kUnit false [0x03], .attrWr kUnit false [0x05]], unforcedWrite i = true) :=
  ⟨test_witness_RepeatedParsePassMarksNothing.1, rfl, rfl, by decide⟩

theorem test_witness_ReportSendsOneFrameForEachGroup :
    measured.cfg.hasEndpoint 1 = true ∧ (groups (measured.reportable 1))[0]? = some (0x0702, [kEnergy]) ∧
    measured.txAnswers[0]? = some true ∧ 0 < (groups (measured.reportable 1)).length := by decide

theorem test_witness_GroupsAreByClusterInFirstSeenOrder :
    (0x0702, [kEnergy, kUnit]) ∈ groups [kEnergy, ⟨1, 0x0B04, 0x0505⟩, kUnit] := by decide

theorem test_witness_ReportedKeysAreTheDirtySetOnes :
    kEnergy ∈ measured.dirtyOf 1 ∧ measured.cfg.row kEnergy = some ⟨kEnergy, 0x25, none⟩ ∧
    measured.value kEnergy = some v4426 ∧ measured.record kEnergy = some ⟨kEnergy.id, 0x25, v4426⟩ := by decide

theorem test_witness_ReportFrameLayout :
    (∀ k ∈ [kEnergy, kUnit], (measured.value k).isSome = true) ∧ measured.value kNone = none := by decide

theorem test_witness_ReadAttributesAnswersEachId : (0x0104 : Half) ≠ measured.cfg.wire.mgProfile ∧
    measured.cfg.wire.hdrLen ≤ ([] : List Byte).length + 3 := by decide

theorem test_witness_DroppedAndIgnoredFrames :
    (0x0104 : Half) ≠ cfg.wire.mgProfile ∧ [0x00, (0x2D : Byte)].length < 3 ∧ cfg.wire.cmdReportAttr ≠ cfg.wire.cmdReadAttr ∧
    cfg.wire.cmdReportAttr ≠ cfg.wire.cmdDefaultRsp ∧ cfg.wire.hdrLen ≤ ([] : List Byte).length + 3 ∧
    [0x00, 0x2A, 0x00, (0x00 : Byte)].length < otherWire.wire.hdrLen ∧
    [0x15, 0x00, (0x00 : Byte)].length < 4 ∧ [0x12, (0x00 : Byte)].length < 3 ∧ (List.replicate 11 (0x00 : Byte)).length < 12 ∧
    (0x8004 : Half) ∉ cfg.wire.mgCommands ∧ cfg.wire.Distinct :=
  ⟨by decide, by decide, by decide, by decide, by decide, by decide, by decide, by decide, by decide, by decide,
    test_witness_cfg.2.2.2.1⟩

theorem test_witness_DescriptorQueryIsAnswered :
    State.reset.cfg.epDesc 1 = some desc1 ∧ desc1.bytes.length < 256 ∧ State.reset.cfg.epDesc 3 = none := by decide

theorem test_witness_DeliveredAddressResponseIsLearned :
    cfg.wire.Distinct ∧ (0x8000 : Half) ∈ [cfg.wire.mgNwkAddrRsp, cfg.wire.mgIeeeAddrRsp] ∧
    (0x8001 : Half) ∈ [cfg.wire.mgNwkAddrRsp, cfg.wire.mgIeeeAddrRsp] :=
  ⟨test_witness_cfg.2.2.2.1, .head _, .tail _ (.head _)⟩

theorem test_witness_RequestsAnswerByTheirResponseRows :
    measured.cfg.hasEndpoint 1 = true ∧ groups (measured.reportable 1) = [(0x0702, [kEnergy])] ∧
    measured.cfg.epDesc 1 = some desc1 ∧ measured.cfg.wire.mgSimpleDescRsp = measured.cfg.wire.mgSimpleDescReq ||| 0x8000 ∧
    measured.cfg.wire.mgActiveEpRsp = measured.cfg.wire.mgActiveEpReq ||| 0x8000 ∧
    measured.cfg.wire.mgBindRsp = measured.cfg.wire.mgBindReq ||| 0x8000 ∧
    measured.cfg.wire.mgUnbindRsp = measured.cfg.wire.mgUnbindReq ||| 0x8000 := by decide

theorem test_witness_ResetRestoresTheResetState : measured.cfg.row kUnit = some ⟨kUnit, 0x30, some [0x00]⟩ := by decide

theorem test_witness_PolicyTakesEffectAtOnce :
    steady.cfg.row kUnit = some ⟨kUnit, 0x30, some [0x00]⟩ ∧ steady.firstRun = false := by decide

end Sys2Proof.Tests
end

section
/-! The request rows that are answered, against their response rows (R236, R261; log entries 6 and 17), and a REPORT of one
group against CL.REPORT_ATTR (R213): both sides hand over one and the same envelope. -/

namespace Sys2Proof.Machine

/-! ### What the answering operations are, on one envelope -/

/-- An MG answer is the hand-over along the route exchanged, on any cluster that is the request's with bit 15 set (R261;
log entry 17). -/
theorem State.mgAnswer_eq_mgRespond (s : State) (r : Route) {request response : Half}
    (hrsp : response = request ||| 0x8000) (frame : List Byte) :
    s.mgAnswer r request frame = s.mgRespond r.reply response frame := by
  subst hrsp
  rfl

/-- The descriptor query of an endpoint with a row in EP_TABLE is answered with that row's descriptor (R252, R253). -/
theorem State.simpleDesc_of_epDesc {s : State} {ep : Byte} {e : EpDesc} (he : s.cfg.epDesc ep = some e) (r : Route)
    (tseq : Byte) (addr : Half) :
    s.simpleDesc r tseq addr ep
      = s.mgAnswer r s.cfg.wire.mgSimpleDescReq (simpleDescRspFrame s.cfg.wire tseq addr (s.descLenByte e) e) := by
  simp only [State.simpleDesc, he]

/-- REPORT of a known endpoint with one group sends that group's frame and returns its one answer (R213 to R215). -/
theorem State.reportAll_of_groups_singleton {s : State} {ep : Byte} {cluster : Half} {members : List Key}
    (hg : groups (s.reportable ep) = [(cluster, members)]) :
    s.reportAll ep
      = (s.sendReport (s.reportTx ep cluster (members.filterMap s.record))).returns
          (.reports [((s.reportTx ep cluster (members.filterMap s.record)).frame, cluster, s.txAnswer)]) := by
  simp only [State.reportAll, hg, sendGroups]

/-! ### Each request row against its response row -/

/-- CL.READ_ATTR answers on the request's cluster and profile whatever the configuration is (R233, R236). -/
theorem exec_clReadAttr_eq_clReadAttrRsp (r : Route) (cluster profile : Half) (kind seq : Byte) (args : List Byte)
    (s : State) :
    exec (.clReadAttr r cluster profile kind seq args) s
      = exec (.clReadAttrRsp r.reply cluster profile seq ((idsOf args).map (s.attrResult r.dstEp cluster))) s := rfl

theorem exec_mgSimpleDescReq_eq_mgSimpleDescRsp {s : State} {ep : Byte} {e : EpDesc} (he : s.cfg.epDesc ep = some e)
    (hrsp : s.cfg.wire.mgSimpleDescRsp = s.cfg.wire.mgSimpleDescReq ||| 0x8000) (r : Route) (tseq : Byte) (addr : Half)
    (rest : List Byte) :
    exec (.mgSimpleDescReq r tseq addr ep rest) s
      = exec (.mgSimpleDescRsp r.reply tseq addr (s.descLenByte e) e) s :=
  congrArg Host.Outcome.next ((State.simpleDesc_of_epDesc he r tseq addr).trans (s.mgAnswer_eq_mgRespond r hrsp _))

theorem exec_mgActiveEpReq_eq_mgActiveEpRsp {s : State}
    (hrsp : s.cfg.wire.mgActiveEpRsp = s.cfg.wire.mgActiveEpReq ||| 0x8000) (r : Route) (tseq : Byte) (addr : Half)
    (rest : List Byte) :
    exec (.mgActiveEpReq r tseq addr rest) s
      = exec (.mgActiveEpRsp r.reply tseq addr (s.cfg.epTable.map EpDesc.endpoint)) s :=
  congrArg Host.Outcome.next (s.mgAnswer_eq_mgRespond r hrsp _)

theorem exec_mgBindReq_eq_mgBindRsp {s : State} (hrsp : s.cfg.wire.mgBindRsp = s.cfg.wire.mgBindReq ||| 0x8000)
    (r : Route) (tseq : Byte) (body : List Byte) :
    exec (.mgBindReq r tseq body) s = exec (.mgBindRsp r.reply tseq) s :=
  congrArg Host.Outcome.next (s.mgAnswer_eq_mgRespond r hrsp _)

theorem exec_mgUnbindReq_eq_mgUnbindRsp {s : State} (hrsp : s.cfg.wire.mgUnbindRsp = s.cfg.wire.mgUnbindReq ||| 0x8000)
    (r : Route) (tseq : Byte) (body : List Byte) :
    exec (.mgUnbindReq r tseq body) s = exec (.mgUnbindRsp r.reply tseq) s :=
  congrArg Host.Outcome.next (s.mgAnswer_eq_mgRespond r hrsp _)

/-- The loop of REPORT over one group is CL.REPORT_ATTR with the current SEQ (R213, R214; log entry 6). -/
theorem exec_report_eq_clReportAttr {s : State} {ep : Byte} {cluster : Half} {members : List Key}
    (hep : s.cfg.hasEndpoint ep = true) (hg : groups (s.reportable ep) = [(cluster, members)]) :
    exec (.report ep) s
      = exec (.clReportAttr ⟨s.cfg.reportDest, ep, s.cfg.reportDstEp⟩ cluster s.cfg.profileId s.seq
          (members.filterMap s.record)) s := by
  have hexec : exec (.report ep) s = .next (s.reportAll ep) := congrArg Host.Outcome.next (if_pos hep)
  rw [hexec, State.reportAll_of_groups_singleton hg]
  rfl

/-- Settles O58, row by row: an answering arm and its response row hand over the same envelope. -/
theorem requestsAnswerByTheirResponseRows : Obligations.RequestsAnswerByTheirResponseRows := by
  intro r cluster profile addr kind seq endpoint args s w
  refine ⟨?readAttr, ?simpleDesc, ?activeEp, ?bind, ?unbind, ?report⟩
  case readAttr => exact exec_clReadAttr_eq_clReadAttrRsp r cluster profile kind seq args s
  case simpleDesc => exact fun _ he hrsp => exec_mgSimpleDescReq_eq_mgSimpleDescRsp he hrsp r seq addr args
  case activeEp => exact fun hrsp => exec_mgActiveEpReq_eq_mgActiveEpRsp hrsp r seq addr args
  case bind => exact fun hrsp => exec_mgBindReq_eq_mgBindRsp hrsp r seq args
  case unbind => exact fun hrsp => exec_mgUnbindReq_eq_mgUnbindRsp hrsp r seq args
  case report => exact fun _ _ hep hg => exec_report_eq_clReportAttr hep hg

end Sys2Proof.Machine
end

section
/-! What an operation can write (10_state.md R20, R43): the ends of a delivery's arms, what ERR records, the effect of each
instruction on the state, and from it the writers of each element. -/

namespace Sys2Proof.Machine

/-! ### A delivery, on two states at once -/

/-- A relation that holds between two states after each way in which an arm of FRAME.RX can end, on the arm's condition
(R232, R236, R238, R239, R251, R258 to R261). -/
structure ArmsRelate (R : State → State → Prop) (env : Envelope) (s s' : State) : Prop where
  drop : ∀ e, R (s.dropFrame e) (s'.dropFrame e)
  respond : ∀ tx, R (s.respond tx) (s'.respond tx)
  ignore : R (s.returns (.frames [])) (s'.returns (.frames []))
  learn : env.profile = s.cfg.wire.mgProfile →
    env.cluster = s.cfg.wire.mgNwkAddrRsp ∨ env.cluster = s.cfg.wire.mgIeeeAddrRsp →
    ∀ long short, R (s.learnPeer long short) (s'.learnPeer long short)
  acknowledge : env.profile ≠ s.cfg.wire.mgProfile →
    (∃ kind seq args, env.payload = kind :: seq :: s.cfg.wire.cmdDefaultRsp :: args) → R s.defaultRsp s'.defaultRsp

variable {R : State → State → Prop} {env : Envelope} {s s' : State}

theorem ArmsRelate.simpleDesc (h : ArmsRelate R env s s') (hcfg : s'.cfg = s.cfg) (hfree : s'.freeIdx = s.freeIdx)
    (r : Route) (tseq : Byte) (addr : Half) (ep : Byte) :
    R (s.simpleDesc r tseq addr ep) (s'.simpleDesc r tseq addr ep) := by
  simp only [State.simpleDesc, State.mgAnswer, State.mgRespond, State.descLenByte, hcfg, hfree]
  split
  · exact h.respond _
  · exact h.drop _

theorem ArmsRelate.addrRsp (h : ArmsRelate R env s s') (hmg : env.profile = s.cfg.wire.mgProfile)
    (hcl : env.cluster = s.cfg.wire.mgNwkAddrRsp ∨ env.cluster = s.cfg.wire.mgIeeeAddrRsp) (body : List Byte) :
    R (s.addrRsp body) (s'.addrRsp body) := by
  unfold State.addrRsp
  split
  · exact h.learn hmg hcl _ _
  · exact h.drop _

theorem ArmsRelate.mgDispatch (h : ArmsRelate R env s s') (hcfg : s'.cfg = s.cfg) (hfree : s'.freeIdx = s.freeIdx)
    (hmg : env.profile = s.cfg.wire.mgProfile) : R (s.mgDispatch env) (s'.mgDispatch env) := by
  simp only [State.mgDispatch, State.activeEp, State.acknowledge, State.mgAnswer, State.mgRespond, hcfg]
  split
  · exact h.drop _
  split
  · split
    · exact h.simpleDesc hcfg hfree _ _ _ _
    · exact h.drop _
  split
  · split
    · exact h.respond _
    · exact h.drop _
  split
  · exact h.respond _
  split
  · exact h.respond _
  split
  next hcl => exact h.addrRsp hmg (.inl hcl) _
  split
  next hcl => exact h.addrRsp hmg (.inr hcl) _
  split
  · exact h.ignore
  · exact h.drop _

/-- A result of a read request depends on the tables and the store only (R235). -/
theorem State.attrResult_congr (hcfg : s'.cfg = s.cfg) (hstore : s'.store = s.store) : s'.attrResult = s.attrResult := by
  funext ep cluster id
  simp only [State.attrResult, State.rowValue, hcfg, hstore]

theorem ArmsRelate.readAttr (h : ArmsRelate R env s s') (hcfg : s'.cfg = s.cfg) (hstore : s'.store = s.store)
    (r : Route) (cluster profile : Half) (seq : Byte) (args : List Byte) :
    R (s.readAttr r cluster profile seq args) (s'.readAttr r cluster profile seq args) := by
  simp only [State.readAttr, State.attrResults, State.attrResult_congr hcfg hstore, hcfg]
  exact h.respond _

theorem ArmsRelate.clDispatch (h : ArmsRelate R env s s') (hcfg : s'.cfg = s.cfg) (hstore : s'.store = s.store)
    (hcl : env.profile ≠ s.cfg.wire.mgProfile) : R (s.clDispatch env) (s'.clDispatch env) := by
  simp only [State.clDispatch, hcfg]
  split
  next hp =>
    split
    · exact h.drop _
    split
    · exact h.readAttr hcfg hstore _ _ _ _ _
    split
    next hc => exact h.acknowledge hcl ⟨_, _, _, hc ▸ hp⟩
    · exact h.drop _
  · exact h.drop _

/-- A delivery to two states with the same configuration, store and counter takes the same arm of FRAME.RX in both (R230). -/
theorem ArmsRelate.frameRx (h : ArmsRelate R env s s') (hcfg : s'.cfg = s.cfg) (hstore : s'.store = s.store)
    (hfree : s'.freeIdx = s.freeIdx) :
    ∃ t t', exec (.frameRx env) s = .next t ∧ exec (.frameRx env) s' = .next t' ∧ R t t' := by
  refine ⟨_, _, rfl, rfl, ?_⟩
  simp only [hcfg]
  split
  next hmg => exact h.mgDispatch hcfg hfree hmg
  next hcl => exact h.clDispatch hcfg hstore hcl

/-! ### What ERR records (R27, R270) -/

/-- ERR after an operation other than ACQ.START and RESET: kept where the status is OK, else the code of the status, and
the status is not one of the two outcomes that are only reported (R275, R278). -/
def State.Recorded (s t : State) : Prop :=
  (t.ret.status = .ok ∧ t.err = s.err) ∨
  (t.ret.status ∉ [.ok, .unsupportedAttribute, .transmitFailure] ∧ t.err = t.ret.status.code)

theorem State.recorded_of_ok {t : State} (hr : t.ret.status = .ok) (he : t.err = s.err) : s.Recorded t := .inl ⟨hr, he⟩

theorem State.recorded_illegal (s : State) : s.Recorded (s.raise .illegalOperation) := .inr ⟨by simp, rfl⟩

theorem State.recorded_dropFrame (s : State) (e : LogEvent) : s.Recorded (s.dropFrame e) :=
  .inr ⟨by simp [State.dropFrame], rfl⟩

theorem State.recorded_failed (s : State) {e : Status} (he : e ∉ [.ok, .unsupportedAttribute, .transmitFailure]) :
    s.Recorded (s.failed e) := .inr ⟨he, rfl⟩

theorem State.recorded_poll (s : State) (c : List Byte) : s.Recorded (s.poll c) := by
  rcases s.poll_cases c with ⟨_, h⟩ | ⟨_, h | h⟩ | ⟨_, _, h⟩ | ⟨_, _, _, _, _, _, ⟨_, h⟩ | ⟨_, _, ⟨_, h⟩ | ⟨_, h⟩⟩⟩ |
    ⟨_, _, _, _, ⟨_, _, h⟩ | ⟨_, _, ⟨_, h⟩ | ⟨_, h⟩⟩⟩ | ⟨_, _, _, _, ⟨_, _, h⟩ | ⟨_, _, _, h⟩⟩ <;> rw [h]
  case inl => exact s.recorded_illegal
  case inr.inl.inl => exact s.recorded_failed (by simp)
  case inr.inl.inr => exact s.recorded_failed (by simp)
  all_goals exact State.recorded_of_ok rfl rfl

/-! ### The effect of each instruction -/

/-- A default response, as a row or as a delivery (R231, R238). -/
def IsAcknowledgement (c : Config) (i : Instr) : Prop :=
  (∃ r cl pr k sq a, i = .clDefaultRsp r cl pr k sq a) ∨
  ∃ env k sq a, i = .frameRx env ∧ env.profile ≠ c.wire.mgProfile ∧ env.payload = k :: sq :: c.wire.cmdDefaultRsp :: a

/-- What an instruction can do to the state: R43's write sets, with the values written where the invariant needs them.
`quiet` is every end that writes ERR and the model's own fields at most. -/
inductive Effect (s : State) : Instr → State → Prop
  | quiet {i} (e : BitVec 3) (tr : List OutEvent) (l : List Bool) (n : Nat) (r : Ret)
    (hrec : s.Recorded { s with err := e, trace := tr, txAnswers := l, freeIdx := n, ret := r }) :
    Effect s i { s with err := e, trace := tr, txAnswers := l, freeIdx := n, ret := r }
  | crc {i} (v : Half) (hi : i = .crcClr ∨ ∃ b, i = .crcUpd b) : Effect s i { s with crc := v, ret := ⟨.ok, .none⟩ }
  | start (tr : List OutEvent) :
    Effect s .acqStart
      { s with
        fstate := .scanning, polls := 0, tbuf := [], bang := none, gate := true, err := 0, trace := tr
        ret := ⟨.ok, .none⟩ }
  | poll {i} (c : List Byte) (hi : i = .acqPoll c ∨ ∃ b d, i = .telegram b d ∧ c = telegramBytes s.cfg b d) :
    Effect s i
      { s with
        fstate := (s.poll c).fstate, polls := (s.poll c).polls, tbuf := (s.poll c).tbuf, bang := (s.poll c).bang
        gate := (s.poll c).gate, err := (s.poll c).err, trace := (s.poll c).trace, ret := (s.poll c).ret }
  | release (h : s.fstate.acquiring = false) : Effect s .acqRel (s.toIdle.returns .none)
  | mismatch (h : s.fstate.acquiring = false) : Effect s .tverify (s.toIdle.raise .checksumMismatch)
  | write {k f v r} (hr : s.cfg.row k = some r) (hv : s.cfg.valueWf r.tag v = true) :
    Effect s (.attrWr k f v)
      { s with
        store := (s.writeRow r f v).store, dirty := (s.writeRow r f v).dirty, ret := (s.writeRow r f v).ret }
  | touch {k f r} (hr : s.cfg.row k = some r) :
    Effect s (.attrTouch k f) { s with dirty := (s.mark r.key).dirty, ret := ⟨.ok, .marked true⟩ }
  | clean (ep : Byte) : Effect s (.dirtyClr ep) ((s.setDirtyOf ep []).returns .none)
  | report {i} (q : Byte) (l : List Bool) (n : Nat) (tr : List OutEvent) (r : Result)
    (hi : (∃ ep, i = .report ep) ∨ ∃ rt cl pr sq rs, i = .clReportAttr rt cl pr sq rs) :
    Effect s i { s with seq := q, txAnswers := l, freeIdx := n, trace := tr, ret := ⟨.ok, r⟩ }
  | acknowledge {i} (hi : IsAcknowledgement s.cfg i) : Effect s i s.defaultRsp
  | learn {i} (long : BitVec 64) (short : Half)
    (hi : (∃ r q st l sh re, i = .mgNwkAddrRsp r q st l sh re) ∨ (∃ r q st l sh re, i = .mgIeeeAddrRsp r q st l sh re) ∨
      ∃ env, i = .frameRx env ∧ env.profile = s.cfg.wire.mgProfile ∧
        (env.cluster = s.cfg.wire.mgNwkAddrRsp ∨ env.cluster = s.cfg.wire.mgIeeeAddrRsp)) :
    Effect s i (s.learnPeer long short)
  | reset (tr : List OutEvent) :
    Effect s .reset
      { State.resetWith s.cfg with
        pending := s.pending, txAnswers := s.txAnswers, freeIdx := s.freeIdx, trace := tr, ret := ⟨.ok, .none⟩ }
  | policy (p : Bool) : Effect s (.cfgPolicy p) ((s.setAlwaysPublish p).returns .none)

namespace Effect

variable {i : Instr}

theorem returns (s : State) (r : Result) : Effect s i (s.returns r) :=
  .quiet _ _ _ _ _ (State.recorded_of_ok rfl rfl)

theorem illegal (s : State) : Effect s i (s.raise .illegalOperation) := .quiet _ _ _ _ _ s.recorded_illegal

theorem drop (s : State) (e : LogEvent) : Effect s i (s.dropFrame e) := .quiet _ _ _ _ _ (s.recorded_dropFrame e)

theorem respond (s : State) (tx : TxEnvelope) : Effect s i (s.respond tx) :=
  .quiet _ _ _ _ _ (State.recorded_of_ok rfl rfl)

theorem ofPoll (s : State) (c : List Byte) (hi : i = .acqPoll c ∨ ∃ b d, i = .telegram b d ∧ c = telegramBytes s.cfg b d) :
    Effect s i (s.poll c) := by
  rw [s.poll_frame c]
  exact .poll c hi

theorem simpleDesc (s : State) (r : Route) (tseq : Byte) (addr : Half) (ep : Byte) :
    Effect s i (s.simpleDesc r tseq addr ep) := by
  unfold State.simpleDesc
  split
  · exact respond s _
  · exact drop s _

theorem frameRx (s : State) (env : Envelope) : ∃ t, exec (.frameRx env) s = .next t ∧ Effect s (.frameRx env) t := by
  have arms : ArmsRelate (fun t _ => Effect s (.frameRx env) t) env s s :=
    { drop := fun e => drop s e
      respond := fun tx => respond s tx
      ignore := returns s _
      learn := fun hmg hcl long short => .learn long short (.inr (.inr ⟨env, rfl, hmg, hcl⟩))
      acknowledge := fun hcl ⟨k, sq, a, hp⟩ => .acknowledge (.inr ⟨env, k, sq, a, rfl, hcl, hp⟩) }
  obtain ⟨t, _, ht, _, he⟩ := arms.frameRx rfl rfl rfl
  exact ⟨t, ht, he⟩

end Effect

theorem execReport_effect (ep : Byte) (s : State) : ∃ t, exec (.report ep) s = .next t ∧ Effect s (.report ep) t := by
  refine ⟨_, rfl, ?_⟩
  split
  · rw [State.reportAll_frame]
    exact .report _ _ _ _ _ (.inl ⟨ep, rfl⟩)
  · exact .illegal s

theorem execClReportAttr_effect (r : Route) (cluster profile : Half) (seq : Byte) (records : List AttrRecord) (s : State) :
    ∃ t, exec (.clReportAttr r cluster profile seq records) s = .next t ∧
      Effect s (.clReportAttr r cluster profile seq records) t := by
  refine ⟨_, rfl, ?_⟩
  rw [State.sendReport_eq]
  exact .report _ _ _ _ _ (.inr ⟨r, cluster, profile, seq, records, rfl⟩)

theorem execAttrWr_effect (k : Key) (force : Bool) (v : List Byte) (s : State) :
    ∃ t, exec (.attrWr k force v) s = .next t ∧ Effect s (.attrWr k force v) t := by
  refine ⟨_, rfl, ?_⟩
  split
  next r hr =>
    split
    next hv =>
      rw [State.writeRow_frame]
      exact .write hr hv
    next => exact .illegal s
  next => exact .illegal s

theorem execAttrTouch_effect (k : Key) (force : Bool) (s : State) :
    ∃ t, exec (.attrTouch k force) s = .next t ∧ Effect s (.attrTouch k force) t := by
  refine ⟨_, rfl, ?_⟩
  split
  next r hr =>
    split
    next =>
      rw [State.mark_eq]
      exact .touch hr
    next => exact .returns s _
  next => exact .illegal s

theorem execAttrRd_effect (k : Key) (s : State) : ∃ t, exec (.attrRd k) s = .next t ∧ Effect s (.attrRd k) t := by
  refine ⟨_, rfl, ?_⟩
  split <;> exact .returns s _

theorem execDirtyClr_effect (ep : Byte) (s : State) :
    ∃ t, exec (.dirtyClr ep) s = .next t ∧ Effect s (.dirtyClr ep) t := by
  refine ⟨_, rfl, ?_⟩
  split
  · exact .clean ep
  · exact .illegal s

theorem exec_acqStart (s : State) :
    ∃ tr, exec .acqStart s = .next { s with
      fstate := .scanning, polls := 0, tbuf := [], bang := none, gate := true, err := 0, trace := tr
      ret := ⟨.ok, .none⟩ } :=
  ⟨_, congrArg (fun t => Host.Outcome.next (State.returns t .none)) (State.driveGate_eq _ _)⟩

theorem execAcqStart_effect (s : State) : ∃ t, exec .acqStart s = .next t ∧ Effect s .acqStart t := by
  obtain ⟨tr, h⟩ := exec_acqStart s
  exact ⟨_, h, .start tr⟩

theorem execAcqRel_effect (s : State) : ∃ t, exec .acqRel s = .next t ∧ Effect s .acqRel t := by
  refine ⟨_, rfl, ?_⟩
  split
  next h => exact .release (by rcases h with h | h <;> rw [h] <;> rfl)
  next => exact .illegal s

theorem execAcqRd_effect (s : State) : ∃ t, exec .acqRd s = .next t ∧ Effect s .acqRd t := by
  refine ⟨_, rfl, ?_⟩
  split
  · exact .returns s _
  · exact .illegal s

theorem execTverify_effect (s : State) : ∃ t, exec .tverify s = .next t ∧ Effect s .tverify t := by
  refine ⟨_, rfl, ?_⟩
  split
  next h =>
    split
    next => exact .returns s _
    next => exact .mismatch (by rw [h]; rfl)
  next => exact .illegal s

theorem exec_reset (s : State) :
    ∃ tr, exec .reset s = .next { State.resetWith s.cfg with
      pending := s.pending, txAnswers := s.txAnswers, freeIdx := s.freeIdx, trace := tr, ret := ⟨.ok, .none⟩ } :=
  ⟨_, congrArg (fun t => Host.Outcome.next (State.returns t .none)) (State.resetElements_eq s)⟩

theorem execReset_effect (s : State) : ∃ t, exec .reset s = .next t ∧ Effect s .reset t := by
  obtain ⟨tr, h⟩ := exec_reset s
  exact ⟨_, h, .reset tr⟩

/-- Every instruction has one of the effects. -/
theorem exec_has_effect (i : Instr) (s : State) : ∃ t, exec i s = .next t ∧ Effect s i t := by
  cases i with
  | crcClr => exact ⟨_, rfl, .crc _ (.inl rfl)⟩
  | crcUpd b => exact ⟨_, rfl, .crc _ (.inr ⟨b, rfl⟩)⟩
  | acqStart => exact execAcqStart_effect s
  | acqPoll c => exact ⟨_, rfl, .ofPoll s c (.inl rfl)⟩
  | acqRel => exact execAcqRel_effect s
  | acqRd => exact execAcqRd_effect s
  | tverify => exact execTverify_effect s
  | attrWr k force v => exact execAttrWr_effect k force v s
  | attrTouch k force => exact execAttrTouch_effect k force s
  | attrRd k => exact execAttrRd_effect k s
  | dirtyClr ep => exact execDirtyClr_effect ep s
  | report ep => exact execReport_effect ep s
  | frameRx env => exact Effect.frameRx s env
  | reset => exact execReset_effect s
  | cfgPolicy p => exact ⟨_, rfl, .policy p⟩
  | clReportAttr r cluster profile seq records => exact execClReportAttr_effect r cluster profile seq records s
  | clDefaultRsp r cluster profile kind seq args =>
    exact ⟨_, rfl, .acknowledge (.inl ⟨r, cluster, profile, kind, seq, args, rfl⟩)⟩
  | mgNwkAddrRsp r tseq status long short rest =>
    exact ⟨_, rfl, .learn long short (.inl ⟨r, tseq, status, long, short, rest, rfl⟩)⟩
  | mgIeeeAddrRsp r tseq status long short rest =>
    exact ⟨_, rfl, .learn long short (.inr (.inl ⟨r, tseq, status, long, short, rest, rfl⟩))⟩
  | mgSimpleDescReq r tseq addr endpoint rest => exact ⟨_, rfl, .simpleDesc s r tseq addr endpoint⟩
  | telegram body digits => exact ⟨_, rfl, .ofPoll s _ (.inr ⟨body, digits, rfl, rfl⟩)⟩
  | crcRd | csum => exact ⟨_, rfl, .returns s _⟩
  | mgNodeDescRsp => exact ⟨_, rfl, .returns s _⟩
  | clReadAttr | clReadAttrRsp => exact ⟨_, rfl, .respond s _⟩
  | mgSimpleDescRsp | mgActiveEpReq | mgActiveEpRsp | mgBindReq | mgBindRsp | mgUnbindReq | mgUnbindRsp =>
    exact ⟨_, rfl, .respond s _⟩
  | clOther | clShort | mgOther | mgShort => exact ⟨_, rfl, .drop s _⟩
  | reserved04To0F | reserved14To1F | reserved21To2F | reserved34To3F | reserved41To4F | reserved51ToEF |
    reservedF2ToFF => exact ⟨_, rfl, .illegal s⟩

theorem effect_of_exec {i : Instr} {s t : State} (h : exec i s = .next t) : Effect s i t := by
  obtain ⟨u, hu, he⟩ := exec_has_effect i s
  cases h.symm.trans hu
  exact he

theorem State.writeRow_status (s : State) (r : AttrRow) (force : Bool) (v : List Byte) :
    (s.writeRow r force v).ret.status = .ok := by
  unfold State.writeRow
  split <;> rfl

namespace Effect

variable {i : Instr} {t : State}

/-- An outcome is recorded, or the operation is one of the two that clear ERR (R27). -/
theorem outcome (h : Effect s i t) :
    s.Recorded t ∨ ((i = .acqStart ∨ i = .reset) ∧ t.ret.status = .ok ∧ t.err = 0) := by
  cases h with
  | quiet e tr l n r hrec => exact .inl hrec
  | start => exact .inr ⟨.inl rfl, rfl, rfl⟩
  | reset => exact .inr ⟨.inr rfl, rfl, rfl⟩
  | poll c =>
    rw [← s.poll_frame c]
    exact .inl (s.recorded_poll c)
  | mismatch => exact .inl (.inr ⟨by simp, rfl⟩)
  | write => exact .inl (State.recorded_of_ok (s.writeRow_status _ _ _) rfl)
  | _ => exact .inl (State.recorded_of_ok rfl rfl)

/-- FIRST_RUN is kept, cleared by a default response, or set by RESET. -/
theorem firstRun_cases (h : Effect s i t) :
    t.firstRun = s.firstRun ∨ (i = .reset ∧ t.firstRun = true) ∨
    (IsAcknowledgement s.cfg i ∧ t.firstRun = false) := by
  cases h with
  | acknowledge hi => exact .inr (.inr ⟨hi, rfl⟩)
  | reset => exact .inr (.inl ⟨rfl, rfl⟩)
  | _ => exact .inl rfl

theorem firstRun_writers (h : Effect s i t) (hne : t.firstRun ≠ s.firstRun) :
    (∃ r cl pr k sq a, i = .clDefaultRsp r cl pr k sq a) ∨
      (∃ env k sq a, i = .frameRx env ∧ env.profile ≠ s.cfg.wire.mgProfile ∧
        env.payload = k :: sq :: s.cfg.wire.cmdDefaultRsp :: a) ∨ i = .reset := by
  rcases h.firstRun_cases with heq | ⟨hi, _⟩ | ⟨hi, _⟩
  · exact absurd heq hne
  · exact .inr (.inr hi)
  · exact hi.imp_right .inl

theorem crc_writers (h : Effect s i t) (hne : t.crc ≠ s.crc) : i = .crcClr ∨ (∃ b, i = .crcUpd b) ∨ i = .reset := by
  cases h with
  | crc v hi => exact hi.imp_right .inl
  | reset => exact .inr (.inr rfl)
  | _ => exact absurd rfl hne

theorem framer_writers (h : Effect s i t)
    (hne : (t.fstate, t.polls, t.tbuf, t.bang) ≠ (s.fstate, s.polls, s.tbuf, s.bang)) :
    i = .acqStart ∨ (∃ c, i = .acqPoll c) ∨ i = .acqRel ∨ (i = .tverify ∧ t.ret.status = .checksumMismatch) ∨
      i = .reset ∨ ∃ b d, i = .telegram b d := by
  cases h with
  | start => exact .inl rfl
  | poll c hi =>
    rcases hi with hi | ⟨b, d, hi, _⟩
    · exact .inr (.inl ⟨c, hi⟩)
    · exact .inr (.inr (.inr (.inr (.inr ⟨b, d, hi⟩))))
  | release => exact .inr (.inr (.inl rfl))
  | mismatch => exact .inr (.inr (.inr (.inl ⟨rfl, rfl⟩)))
  | reset => exact .inr (.inr (.inr (.inr (.inl rfl))))
  | _ => exact absurd rfl hne

theorem gate_writers (h : Effect s i t) (hne : t.gate ≠ s.gate) :
    i = .acqStart ∨ (∃ c, i = .acqPoll c) ∨ i = .reset ∨ ∃ b d, i = .telegram b d := by
  cases h with
  | start => exact .inl rfl
  | poll c hi =>
    rcases hi with hi | ⟨b, d, hi, _⟩
    · exact .inr (.inl ⟨c, hi⟩)
    · exact .inr (.inr (.inr ⟨b, d, hi⟩))
  | reset => exact .inr (.inr (.inl rfl))
  | _ => exact absurd rfl hne

theorem err_writers (h : Effect s i t) (hne : t.err ≠ s.err) : t.ret.status ≠ .ok ∨ i = .acqStart ∨ i = .reset := by
  rcases h.outcome with (⟨_, herr⟩ | ⟨hs, _⟩) | ⟨hi, _⟩
  · exact absurd herr hne
  · exact .inl fun hok => hs (by simp [hok])
  · exact .inr hi

theorem seq_writers (h : Effect s i t) (hne : t.seq ≠ s.seq) :
    (∃ ep, i = .report ep) ∨ i = .reset ∨ ∃ r cl pr sq rs, i = .clReportAttr r cl pr sq rs := by
  cases h with
  | report q l n tr r hi => exact hi.imp_right .inr
  | reset => exact .inr (.inl rfl)
  | _ => exact absurd rfl hne

theorem alwaysPublish_writers (h : Effect s i t) (hne : t.alwaysPublish ≠ s.alwaysPublish) :
    (∃ p, i = .cfgPolicy p) ∨ i = .reset := by
  cases h with
  | policy p => exact .inl ⟨p, rfl⟩
  | reset => exact .inr rfl
  | _ => exact absurd rfl hne

theorem store_writers (h : Effect s i t) (hne : t.store ≠ s.store) : (∃ k f v, i = .attrWr k f v) ∨ i = .reset := by
  cases h with
  | write => exact .inl ⟨_, _, _, rfl⟩
  | reset => exact .inr rfl
  | _ => exact absurd rfl hne

theorem dirty_writers (h : Effect s i t) (hne : t.dirty ≠ s.dirty) :
    (∃ k f v, i = .attrWr k f v) ∨ (∃ k f, i = .attrTouch k f) ∨ (∃ ep, i = .dirtyClr ep) ∨ i = .reset := by
  cases h with
  | write => exact .inl ⟨_, _, _, rfl⟩
  | touch => exact .inr (.inl ⟨_, _, rfl⟩)
  | clean ep => exact .inr (.inr (.inl ⟨ep, rfl⟩))
  | reset => exact .inr (.inr (.inr rfl))
  | _ => exact absurd rfl hne

theorem peer_writers (h : Effect s i t) (hne : t.peer ≠ s.peer) :
    (∃ r q st l sh re, i = .mgNwkAddrRsp r q st l sh re) ∨ (∃ r q st l sh re, i = .mgIeeeAddrRsp r q st l sh re) ∨
      (∃ env, i = .frameRx env ∧ env.profile = s.cfg.wire.mgProfile ∧
        (env.cluster = s.cfg.wire.mgNwkAddrRsp ∨ env.cluster = s.cfg.wire.mgIeeeAddrRsp)) ∨ i = .reset := by
  cases h with
  | learn long short hi => exact hi.imp_right (.imp_right .inl)
  | reset => exact .inr (.inr (.inr rfl))
  | _ => exact absurd rfl hne

theorem cfg_eq (h : Effect s i t) : t.cfg = s.cfg := by cases h <;> rfl

theorem pending_eq (h : Effect s i t) : t.pending = s.pending := by cases h <;> rfl

end Effect

/-- Settles O13: R43's write sets, element by element. -/
theorem eachElementIsWrittenOnlyByItsOperations : Obligations.EachElementIsWrittenOnlyByItsOperations := by
  intro i s t hexec
  have h := effect_of_exec hexec
  exact ⟨h.crc_writers, h.framer_writers, h.gate_writers, h.err_writers, h.firstRun_writers, h.seq_writers,
    h.alwaysPublish_writers, h.store_writers, h.dirty_writers, h.peer_writers, h.cfg_eq, h.pending_eq⟩

theorem err_cleared_of_exec {i : Instr} {s t : State} (h : exec i s = .next t) (hi : i = .acqStart ∨ i = .reset) :
    t.ret.status = .ok ∧ t.err = 0 := by
  rcases hi with rfl | rfl
  · obtain ⟨tr, ht⟩ := exec_acqStart s
    cases h.symm.trans ht
    exact ⟨rfl, rfl⟩
  · obtain ⟨tr, ht⟩ := exec_reset s
    cases h.symm.trans ht
    exact ⟨rfl, rfl⟩

/-- Settles O14: ACQ.START and RESET clear ERR, every other operation records its outcome. -/
theorem errRecordsTheLastErrorOutcome : Obligations.ErrRecordsTheLastErrorOutcome := by
  intro i s t hexec
  by_cases hi : i = .acqStart ∨ i = .reset
  · obtain ⟨hok, herr⟩ := err_cleared_of_exec hexec hi
    exact ⟨fun hne => absurd hok hne, fun _ hs hr => (hi.elim hs hr).elim, fun _ => herr⟩
  · rcases (effect_of_exec hexec).outcome.resolve_right fun h => hi h.1 with ⟨hok, herr⟩ | ⟨hne, herr⟩
    · exact ⟨fun h => absurd hok h, fun _ _ _ => herr, fun h => absurd h hi⟩
    · exact ⟨fun _ => herr, fun hok => absurd (by simp [hok]) hne, fun h => absurd h hi⟩

/-- Settles O15. -/
theorem firstRunChangesOnlyByAcknowledgementAndReset : Obligations.FirstRunChangesOnlyByAcknowledgementAndReset := by
  intro i s t h
  rcases (effect_of_exec h).firstRun_cases with heq | ⟨hi, ht⟩ | ⟨hi, ht⟩
  · exact ⟨fun hs ht => by simp [heq, hs] at ht, fun hs ht => by simp [heq, hs] at ht⟩
  · exact ⟨fun _ _ => hi, fun _ hf => by simp [ht] at hf⟩
  · exact ⟨fun _ hf => by simp [ht] at hf, fun _ _ => hi⟩

end Sys2Proof.Machine
end

section
/-! The invariant (10_state.md R22 to R27, R33 to R36): it holds after reset, and each effect keeps each of its parts. -/

namespace Sys2Proof.Machine

/-! ### The first occurrence of a byte in a part and in an extension of a sequence -/

theorem findByte_append {b : Byte} {l : List Byte} {j : Nat} (h : findByte b l = some j) (m : List Byte) :
    findByte b (l ++ m) = some j := by
  rw [findByte] at h
  rw [findByte, List.findIdx?_append, h, Option.some_or]

theorem findByte_take {b : Byte} {l : List Byte} {j n : Nat} (h : findByte b l = some j) (hn : j < n) :
    findByte b (l.take n) = some j := by
  obtain ⟨hat, hbefore⟩ := findByte_eq_some.mp h
  refine findByte_eq_some.mpr ⟨?_, ?_⟩
  · rwa [List.getElem?_take_of_lt hn]
  · rwa [List.take_take, Nat.min_eq_left (Nat.le_of_lt hn)]

theorem head?_drop_findByte {b : Byte} {l : List Byte} {j : Nat} (h : findByte b l = some j) :
    (l.drop j).head? = some b := by
  rw [List.head?_drop]
  exact (findByte_eq_some.mp h).1

theorem Config.fits_mono {c : Config} {m n : Nat} (h : c.fits n = true) (hle : m ≤ n) : c.fits m = true := by
  unfold Config.fits at h ⊢
  split at h
  · rfl
  · simp only [decide_eq_true_eq] at h ⊢
    omega

/-! ### The framer's registers and the gate (R22 to R26) -/

/-- The framer's registers and the gate agree. -/
def State.Framing (s : State) : Prop := s.FramerOk ∧ s.GateOk

variable {s t : State}

theorem State.framing_of_idle (hf : t.fstate = .idle) (hp : t.polls = 0) (hb : t.tbuf = []) (hj : t.bang = none)
    (hg : t.gate = false) : t.Framing := by
  simp [Framing, FramerOk, GateOk, FState.acquiring, hf, hp, hb, hj, hg]

theorem State.framing_of_scanning (hf : t.fstate = .scanning) (hp : t.polls < t.cfg.n1) (hb : t.tbuf = [])
    (hj : t.bang = none) (hg : t.gate = true) : t.Framing := by
  simp [Framing, FramerOk, GateOk, FState.acquiring, hf, hp, hb, hj, hg]

theorem State.framing_of_body (hf : t.fstate = .body) (hp : t.polls < t.cfg.n2) (hb : t.Framed) (hj : t.bang = none)
    (he : findByte t.cfg.endMark t.tbuf = none) (hg : t.gate = true) : t.Framing := by
  simp only [Framing, FramerOk, GateOk, FState.acquiring, hf, hg]
  simpa using ⟨hp, hb, hj, he⟩

theorem State.framing_of_tail (hf : t.fstate = .tail) (hp : t.polls < t.cfg.n3) (hb : t.Framed) (hj : t.BangFound)
    (hl : t.tbuf.length < t.telegramLength) (hg : t.gate = true) : t.Framing := by
  simp only [Framing, FramerOk, GateOk, FState.acquiring, hf, hg]
  simpa using ⟨hp, hb, hj, hl⟩

theorem State.framing_of_complete (hf : t.fstate = .complete) (hp : t.polls = 0) (hb : t.Framed) (hj : t.BangFound)
    (hl : t.tbuf.length = t.telegramLength) (hg : t.gate = false) : t.Framing := by
  simp only [Framing, FramerOk, GateOk, FState.acquiring, hf, hg]
  simpa using ⟨hp, hb, hj, hl⟩

/-- A buffer that starts with the start marker and fits, with its first end marker at `j` and no whole telegram yet, is in
TAIL (R156). -/
theorem State.framing_acquiring_tail {n j : Nat} {b : List Byte} (hg : s.gate = true) (hn : n < s.cfg.n3)
    (hb : b.head? = some s.cfg.startMark) (hfit : s.cfg.fits b.length = true) (hj : findByte s.cfg.endMark b = some j)
    (hl : b.length < j + 1 + s.cfg.csumDigits) : (s.acquiring .tail n b (some j)).Framing :=
  State.framing_of_tail rfl hn ⟨hb, hfit⟩ ⟨hj.symm, rfl⟩ hl hg

/-- The same buffer with a whole telegram in it is trimmed to that telegram in COMPLETE (R157). -/
theorem State.framing_completed {j : Nat} {b : List Byte} (hb : b.head? = some s.cfg.startMark)
    (hfit : s.cfg.fits b.length = true) (hj : findByte s.cfg.endMark b = some j)
    (hl : j + 1 + s.cfg.csumDigits ≤ b.length) : (s.completed b j).Framing := by
  have hlen : (b.take (j + 1 + s.cfg.csumDigits)).length = j + 1 + s.cfg.csumDigits := by
    rw [List.length_take, Nat.min_eq_left hl]
  refine State.framing_of_complete rfl rfl ⟨?_, ?_⟩ ⟨?_, rfl⟩ hlen rfl
  · show (b.take _).head? = _
    rw [List.head?_take, if_neg (by omega), hb]
    rfl
  · exact Config.fits_mono hfit (hlen.trans_le hl)
  · exact (findByte_take hj (by omega)).symm

/-- What `advance()` makes of a buffer received in SCANNING or BODY: BODY, TAIL or COMPLETE (R156). -/
theorem State.framing_received {n : Nat} {b : List Byte} (hg : s.gate = true) (hn3 : 1 ≤ s.cfg.n3) (hbang : s.bang = none)
    (hb : b.head? = some s.cfg.startMark) (hfit : s.cfg.fits b.length = true)
    (h : (findByte s.cfg.endMark b = none ∧ n < s.cfg.n2 ∧ t = s.acquiring .body n b s.bang) ∨
      ∃ j, findByte s.cfg.endMark b = some j ∧
        ((b.length < j + 1 + s.cfg.csumDigits ∧ t = s.acquiring .tail 0 b (some j)) ∨
          (j + 1 + s.cfg.csumDigits ≤ b.length ∧ t = s.completed b j))) : t.Framing := by
  rcases h with ⟨he, hn, rfl⟩ | ⟨j, hj, ⟨hl, rfl⟩ | ⟨hl, rfl⟩⟩
  · exact State.framing_of_body rfl hn ⟨hb, hfit⟩ hbang he hg
  · exact State.framing_acquiring_tail hg hn3 hb hfit hj hl
  · exact State.framing_completed hb hfit hj hl

theorem State.framing_failed (s : State) (e : Status) : (s.failed e).Framing :=
  State.framing_of_idle rfl rfl rfl rfl rfl

/-- A poll keeps the framer's registers and the gate in agreement (R152 to R158, R160). -/
theorem State.Framing.poll (h : s.Framing) (hwf : s.cfg.WellFormed) (c : List Byte) : (s.poll c).Framing := by
  have hkeep : s.illegal.Framing := h
  obtain ⟨⟨_, hscan, hbody, htail, _⟩, hgate⟩ := h
  obtain ⟨⟨_, hn2, hn3⟩, _⟩ := hwf
  have hactive : ∀ {f}, s.fstate = f → f.acquiring = true → s.gate = true := fun hf ha => by rw [hgate, hf, ha]
  rcases s.poll_cases c with ⟨_, hp⟩ | ⟨_, hp | hp⟩ | ⟨hf, hne, hp⟩ | ⟨i, b, hf, hi, hb, hfit, hcase⟩ |
    ⟨b, hf, hb, hfit, hcase⟩ | ⟨b, hf, hb, hfit, hcase⟩
  case inl => exact hp ▸ hkeep
  case inr.inl.inl => exact hp ▸ s.framing_failed _
  case inr.inl.inr => exact hp ▸ s.framing_failed _
  case inr.inr.inl =>
    obtain ⟨hlt, hbuf, hbang⟩ := hscan hf
    exact hp ▸ State.framing_of_scanning rfl (show s.polls + 1 < s.cfg.n1 by omega) hbuf hbang (hactive hf rfl)
  case inr.inr.inr.inl =>
    obtain ⟨_, _, hbang⟩ := hscan hf
    have hhead : b.head? = some s.cfg.startMark := hb ▸ head?_drop_findByte hi
    exact State.framing_received (hactive hf rfl) hn3 hbang hhead hfit (hcase.imp_left fun ⟨he, hp⟩ => ⟨he, hn2, hp⟩)
  case inr.inr.inr.inr.inl =>
    obtain ⟨hlt, ⟨hhead, _⟩, hbang, _⟩ := hbody hf
    have hhead' : b.head? = some s.cfg.startMark := by rw [hb, List.head?_append, hhead, Option.some_or]
    exact State.framing_received (hactive hf rfl) hn3 hbang hhead' hfit
      (hcase.imp_left fun ⟨he, hne, hp⟩ => ⟨he, by omega, hp⟩)
  case inr.inr.inr.inr.inr =>
    obtain ⟨hlt, ⟨hhead, _⟩, ⟨hbang, hsome⟩, _⟩ := htail hf
    have hhead' : b.head? = some s.cfg.startMark := by rw [hb, List.head?_append, hhead, Option.some_or]
    obtain ⟨j, hj⟩ := Option.isSome_iff_exists.mp hsome
    have hfind : findByte s.cfg.endMark b = some j := hb ▸ findByte_append (hbang.symm.trans hj) c
    rcases hcase with ⟨hne, hless, hp⟩ | ⟨j', hj', hl, hp⟩
    · rw [hp, hj]
      exact State.framing_acquiring_tail (hactive hf rfl) (by omega) hhead' hfit hfind (hless j hj)
    · cases hj.symm.trans hj'
      exact hp ▸ State.framing_completed hhead' hfit hfind hl

/-! ### ERR, the store and the dirty sets (R27, R34, R35) -/

/-- An operation that records an outcome leaves a code in ERR that is recorded (R270, R275, R278). -/
theorem State.Recorded.errOk (h : s.Recorded t) (hs : s.ErrOk) : t.ErrOk := by
  rcases h with ⟨_, herr⟩ | ⟨hne, herr⟩
  · rwa [State.ErrOk, herr]
  · rw [State.ErrOk, herr]
    revert hne
    cases t.ret.status <;> decide

theorem State.errOk_of_cleared (h : t.err = 0) : t.ErrOk := by
  rw [State.ErrOk, h]
  decide

theorem State.writeRow_store (s : State) (r : AttrRow) (force : Bool) (v : List Byte) :
    (s.writeRow r force v).store = s.store ∨ (s.writeRow r force v).store = Memory.write r.init s.store r.key.addr v := by
  unfold State.writeRow
  split
  · rw [State.mark_eq]
    exact .inr rfl
  · exact .inl rfl

theorem State.writeRow_dirty (s : State) (r : AttrRow) (force : Bool) (v : List Byte) :
    (s.writeRow r force v).dirty = s.dirty ∨ (s.writeRow r force v).dirty = (s.mark r.key).dirty := by
  unfold State.writeRow
  split
  · exact .inr rfl
  · exact .inl rfl

/-- A row found under a key is found under its own key. -/
theorem Config.row_isSome {c : Config} {k : Key} {r : AttrRow} (hr : c.row k = some r) : (c.row r.key).isSome = true := by
  rw [Config.row_key hr, hr]
  rfl

theorem Memory.wf_writeRow (h : Memory.wf s.cfg s.store) {k : Key} {r : AttrRow} (hr : s.cfg.row k = some r) {v : List Byte}
    (hv : s.cfg.valueWf r.tag v = true) (force : Bool) : Memory.wf s.cfg (s.writeRow r force v).store := by
  rcases s.writeRow_store r force v with hst | hst <;> rw [hst]
  · exact h
  · exact Memory.wf_write h (Config.row_mem hr) hv

theorem DirtySets.wf_writeRow (h : DirtySets.wf s.cfg s.dirty) {k : Key} {r : AttrRow} (hr : s.cfg.row k = some r)
    (force : Bool) (v : List Byte) : DirtySets.wf s.cfg (s.writeRow r force v).dirty := by
  rcases s.writeRow_dirty r force v with hd | hd <;> rw [hd]
  · exact h
  · exact DirtySets.wf_mark h (Config.row_isSome hr)

/-! ### Each effect keeps each part of the invariant -/

namespace Effect

variable {i : Instr}

theorem framing (h : Effect s i t) (hwf : s.cfg.WellFormed) (hs : s.Framing) : t.Framing := by
  have hdown : s.fstate.acquiring = false → s.gate = false := fun ha => hs.2.trans ha
  cases h with
  | start tr =>
    obtain ⟨⟨hn1, _⟩, _⟩ := hwf
    exact State.framing_of_scanning rfl hn1 rfl rfl rfl
  | poll c =>
    rw [← s.poll_frame c]
    exact hs.poll hwf c
  | release ha => exact State.framing_of_idle rfl rfl rfl rfl (hdown ha)
  | mismatch ha => exact State.framing_of_idle rfl rfl rfl rfl (hdown ha)
  | reset tr => exact State.framing_of_idle rfl rfl rfl rfl rfl
  | _ => exact hs

theorem errOk (h : Effect s i t) (hs : s.ErrOk) : t.ErrOk := by
  rcases h.outcome with hrec | ⟨_, _, hzero⟩
  · exact hrec.errOk hs
  · exact State.errOk_of_cleared hzero

theorem store_wf (h : Effect s i t) (hs : Memory.wf s.cfg s.store) : Memory.wf t.cfg t.store := by
  cases h with
  | write hr hv => exact Memory.wf_writeRow hs hr hv _
  | reset => exact Memory.wf_nil _
  | _ => exact hs

theorem dirty_wf (h : Effect s i t) (hs : DirtySets.wf s.cfg s.dirty) : DirtySets.wf t.cfg t.dirty := by
  cases h with
  | write hr => exact DirtySets.wf_writeRow hs hr _ _
  | touch hr => exact DirtySets.wf_mark hs (Config.row_isSome hr)
  | clean ep => exact DirtySets.wf_setDirtyOf hs ep List.nodup_nil (by simp)
  | reset => exact DirtySets.wf_nil _
  | _ => exact hs

theorem inv (h : Effect s i t) (hs : s.Inv) : t.Inv := by
  obtain ⟨hwf, hframer, hgate, herr, hstore, hdirty⟩ := hs
  obtain ⟨hframer', hgate'⟩ := h.framing hwf ⟨hframer, hgate⟩
  exact ⟨h.cfg_eq ▸ hwf, hframer', hgate', h.errOk herr, h.store_wf hstore, h.dirty_wf hdirty⟩

end Effect

/-- A step takes nothing from an empty queue, or performs an instruction on the state with an input taken from it. -/
theorem step_cases (h : step s = .next t) : t = s ∨ ∃ i rest, exec i (s.setPending rest) = .next t := by
  unfold step at h
  split at h
  · split at h
    · cases h
      exact .inl rfl
    · split at h
      · exact .inr ⟨_, _, h⟩
      · cases h
  · cases h

/-- Settles O11: the input leaves the queue, which the invariant does not speak of, and its effect keeps each part. -/
theorem everyStepKeepsTheInvariant : Obligations.EveryStepKeepsTheInvariant := by
  intro s t hs hstep
  rcases step_cases hstep with rfl | ⟨i, rest, hexec⟩
  · exact hs
  · have hpop : (s.setPending rest).Inv := hs
    exact (effect_of_exec hexec).inv hpop

theorem State.resetWith_inv {c : Config} (hc : c.WellFormed) : (State.resetWith c).Inv := by
  obtain ⟨hframer, hgate⟩ : (State.resetWith c).Framing := State.framing_of_idle rfl rfl rfl rfl rfl
  exact ⟨hc, hframer, hgate, State.errOk_of_cleared rfl, Memory.wf_nil c, DirtySets.wf_nil c⟩

theorem Config.default_wellFormed : Config.default.WellFormed := by decide

/-- Settles O10: the reset state of any well-formed configuration meets the invariant, and the default one is well-formed. -/
theorem resetMeetsTheInvariant : Obligations.ResetMeetsTheInvariant := State.resetWith_inv Config.default_wellFormed

end Sys2Proof.Machine
end

section
/-! Two elements that operations do not look at (10_state.md R20, R21, R38): PEER, which none reads, and the accumulator CRC,
which CRC.UPD and CRC.RD read. Both are treated at once: other contents are laid over them, and an operation either carries
these contents through or overwrites them. -/

namespace Sys2Proof.Machine

/-- The state with other contents in CRC and PEER, where given. -/
def State.overlay (s : State) (crc : Option Half) (peer : Option (Option PeerAddr)) : State :=
  { s with crc := crc.getD s.crc, peer := peer.getD s.peer }

/-- One state is the other with the contents laid over it, or with those of them that were not overwritten. -/
def Overlaid (crc : Option Half) (peer : Option (Option PeerAddr)) (t t' : State) : Prop :=
  ∃ c ∈ [crc, none], ∃ p ∈ [peer, none], t' = t.overlay c p

variable {crc : Option Half} {peer : Option (Option PeerAddr)}

theorem overlaid_of_eq {t t' : State} (h : t' = t.overlay crc peer) : Overlaid crc peer t t' :=
  ⟨crc, by simp, peer, by simp, h⟩

theorem overlaid_of_crc_written {t t' : State} (h : t' = t.overlay none peer) : Overlaid crc peer t t' :=
  ⟨none, by simp, peer, by simp, h⟩

theorem overlaid_of_overwritten {t t' : State} (h : t' = t) : Overlaid crc peer t t' := ⟨none, by simp, none, by simp, h⟩

theorem overlaid_of_peer_written {t t' : State} (h : t' = t.overlay crc none) : Overlaid crc peer t t' :=
  ⟨crc, by simp, none, by simp, h⟩

section Operations

/-! ### Each shared operation carries the contents through -/

variable (s : State)

@[simp] theorem State.overlay_cfg : (s.overlay crc peer).cfg = s.cfg := rfl
@[simp] theorem State.overlay_fstate : (s.overlay crc peer).fstate = s.fstate := rfl
@[simp] theorem State.overlay_polls : (s.overlay crc peer).polls = s.polls := rfl
@[simp] theorem State.overlay_tbuf : (s.overlay crc peer).tbuf = s.tbuf := rfl
@[simp] theorem State.overlay_bang : (s.overlay crc peer).bang = s.bang := rfl
@[simp] theorem State.overlay_dirtyOf (ep : Byte) : (s.overlay crc peer).dirtyOf ep = s.dirtyOf ep := rfl
@[simp] theorem State.overlay_changed (r : AttrRow) (v : List Byte) : (s.overlay crc peer).changed r v = s.changed r v := rfl
@[simp] theorem State.overlay_publishes (force : Bool) : (s.overlay crc peer).publishes force = s.publishes force := rfl

theorem State.overlay_setFramer (f : FState) (n : Nat) (b : List Byte) (j : Option Nat) :
    (s.overlay crc peer).setFramer f n b j = (s.setFramer f n b j).overlay crc peer := rfl

theorem State.overlay_returns (r : Result) : (s.overlay crc peer).returns r = (s.returns r).overlay crc peer := rfl

theorem State.overlay_raise (e : Status) : (s.overlay crc peer).raise e = (s.raise e).overlay crc peer := rfl

theorem State.overlay_driveGate (b : Bool) : (s.overlay crc peer).driveGate b = (s.driveGate b).overlay crc peer := by
  simp only [State.driveGate_eq]
  rfl

theorem State.overlay_failAcquisition (e : Status) :
    (s.overlay crc peer).failAcquisition e = (s.failAcquisition e).overlay crc peer := by
  simp only [State.failAcquisition_eq]
  rfl

theorem State.overlay_complete (j : Nat) : (s.overlay crc peer).complete j = (s.complete j).overlay crc peer := by
  simp only [State.complete_eq]
  rfl

theorem State.overlay_sendReport (tx : TxEnvelope) :
    (s.overlay crc peer).sendReport tx = (s.sendReport tx).overlay crc peer := by
  simp only [State.sendReport_eq]
  rfl

theorem State.overlay_mark (k : Key) : (s.overlay crc peer).mark k = (s.mark k).overlay crc peer := by
  unfold State.mark
  exact (apply_ite (State.overlay · crc peer) (k ∈ s.dirtyOf k.ep) s
    (s.setDirtyOf k.ep (s.dirtyOf k.ep ++ [k]))).symm

theorem State.overlay_writeRow (r : AttrRow) (force : Bool) (v : List Byte) :
    (s.overlay crc peer).writeRow r force v = (s.writeRow r force v).overlay crc peer := by
  simp only [State.writeRow, State.overlay_mark, State.overlay_changed, State.overlay_publishes]
  split <;> rfl

theorem overlay_sendGroups (ep : Byte) (gs : List (Half × List Key)) :
    sendGroups ep gs (s.overlay crc peer)
      = ((sendGroups ep gs s).1.overlay crc peer, (sendGroups ep gs s).2) := by
  induction gs generalizing s with
  | nil => rfl
  | cons g gs ih =>
    obtain ⟨cluster, members⟩ := g
    simp only [sendGroups, State.overlay_sendReport]
    rw [ih]
    rfl

theorem State.overlay_reportAll (ep : Byte) :
    (s.overlay crc peer).reportAll ep = (s.reportAll ep).overlay crc peer := by
  simp only [State.reportAll]
  rw [overlay_sendGroups]
  rfl

/-! ### The framer carries the contents through -/

theorem State.overlay_advanceBody : (s.overlay crc peer).advanceBody = s.advanceBody.overlay crc peer := by
  simp only [State.advanceBody, State.overlay_fstate, State.overlay_tbuf, State.overlay_cfg]
  split
  · split <;> rfl
  · rfl

theorem State.overlay_advanceTail : (s.overlay crc peer).advanceTail = s.advanceTail.overlay crc peer := by
  simp only [State.advanceTail, State.overlay_fstate, State.overlay_bang, State.overlay_tbuf, State.overlay_cfg,
    State.overlay_complete]
  split
  · split <;> rfl
  · rfl

theorem State.overlay_advance : (s.overlay crc peer).advance = s.advance.overlay crc peer := by
  simp only [State.advance, State.overlay_advanceBody, State.overlay_advanceTail]

theorem State.overlay_endPoll (f : FState) (n : Nat) :
    (s.overlay crc peer).endPoll f n = (s.endPoll f n).overlay crc peer := by
  simp only [State.endPoll, State.overlay_fstate, State.overlay_polls, State.overlay_failAcquisition]
  split <;> rfl

theorem State.overlay_pollScanning (c : List Byte) :
    (s.overlay crc peer).pollScanning c = (s.pollScanning c).overlay crc peer := by
  simp only [State.pollScanning, State.overlay_cfg, State.overlay_polls, State.overlay_tbuf, State.overlay_bang,
    State.overlay_setFramer, State.overlay_advance, State.overlay_endPoll, State.overlay_failAcquisition]
  split
  · split <;> rfl
  · rfl

theorem State.overlay_pollBody (c : List Byte) : (s.overlay crc peer).pollBody c = (s.pollBody c).overlay crc peer := by
  simp only [State.pollBody, State.overlay_cfg, State.overlay_polls, State.overlay_tbuf, State.overlay_bang,
    State.overlay_setFramer, State.overlay_advance, State.overlay_endPoll, State.overlay_failAcquisition]
  split <;> rfl

theorem State.overlay_pollTail (c : List Byte) : (s.overlay crc peer).pollTail c = (s.pollTail c).overlay crc peer := by
  simp only [State.pollTail, State.overlay_cfg, State.overlay_polls, State.overlay_tbuf, State.overlay_bang,
    State.overlay_setFramer, State.overlay_advance, State.overlay_endPoll, State.overlay_failAcquisition]
  split <;> rfl

theorem State.overlay_poll (c : List Byte) : (s.overlay crc peer).poll c = (s.poll c).overlay crc peer := by
  simp only [State.poll, State.overlay_fstate, State.overlay_raise, State.overlay_pollScanning, State.overlay_pollBody,
    State.overlay_pollTail]
  split <;> rfl

theorem State.overlay_simpleDesc (r : Route) (tseq : Byte) (addr : Half) (ep : Byte) :
    (s.overlay crc peer).simpleDesc r tseq addr ep = (s.simpleDesc r tseq addr ep).overlay crc peer := by
  simp only [State.simpleDesc, State.overlay_cfg]
  split <;> rfl

/-- RESET overwrites both (R42, R265). -/
theorem State.overlay_resetElements : (s.overlay crc peer).resetElements = s.resetElements := by
  simp only [State.resetElements_eq]
  rfl

end Operations

/-! ### Each instruction carries the contents through or overwrites them -/

theorem armsRelate_overlaid (env : Envelope) (s : State) : ArmsRelate (Overlaid crc peer) env s (s.overlay crc peer) where
  drop _ := overlaid_of_eq rfl
  respond _ := overlaid_of_eq rfl
  ignore := overlaid_of_eq rfl
  learn _ _ _ _ := overlaid_of_peer_written rfl
  acknowledge _ _ := overlaid_of_eq rfl

theorem execAcqRel_overlaid (s : State) :
    ∃ t t', exec .acqRel s = .next t ∧ exec .acqRel (s.overlay crc peer) = .next t' ∧ Overlaid crc peer t t' := by
  refine ⟨_, _, rfl, rfl, overlaid_of_eq ?_⟩
  rw [State.overlay_fstate]
  split <;> rfl

theorem execAcqRd_overlaid (s : State) :
    ∃ t t', exec .acqRd s = .next t ∧ exec .acqRd (s.overlay crc peer) = .next t' ∧ Overlaid crc peer t t' := by
  refine ⟨_, _, rfl, rfl, overlaid_of_eq ?_⟩
  rw [State.overlay_fstate]
  split <;> rfl

theorem execTverify_overlaid (s : State) :
    ∃ t t', exec .tverify s = .next t ∧ exec .tverify (s.overlay crc peer) = .next t' ∧ Overlaid crc peer t t' := by
  refine ⟨_, _, rfl, rfl, overlaid_of_eq ?_⟩
  rw [State.overlay_fstate, State.overlay_tbuf]
  split
  · split <;> rfl
  · rfl

theorem execAttrWr_overlaid (k : Key) (force : Bool) (v : List Byte) (s : State) :
    ∃ t t', exec (.attrWr k force v) s = .next t ∧ exec (.attrWr k force v) (s.overlay crc peer) = .next t' ∧
      Overlaid crc peer t t' := by
  refine ⟨_, _, rfl, rfl, overlaid_of_eq ?_⟩
  simp only [State.overlay_cfg, State.overlay_writeRow]
  split
  · split <;> rfl
  · rfl

theorem execAttrTouch_overlaid (k : Key) (force : Bool) (s : State) :
    ∃ t t', exec (.attrTouch k force) s = .next t ∧ exec (.attrTouch k force) (s.overlay crc peer) = .next t' ∧
      Overlaid crc peer t t' := by
  refine ⟨_, _, rfl, rfl, overlaid_of_eq ?_⟩
  simp only [State.overlay_cfg, State.overlay_mark, State.overlay_publishes]
  split
  · split <;> rfl
  · rfl

theorem execAttrRd_overlaid (k : Key) (s : State) :
    ∃ t t', exec (.attrRd k) s = .next t ∧ exec (.attrRd k) (s.overlay crc peer) = .next t' ∧
      Overlaid crc peer t t' := by
  refine ⟨_, _, rfl, rfl, overlaid_of_eq ?_⟩
  rw [State.overlay_cfg]
  split <;> rfl

theorem execDirtyClr_overlaid (ep : Byte) (s : State) :
    ∃ t t', exec (.dirtyClr ep) s = .next t ∧ exec (.dirtyClr ep) (s.overlay crc peer) = .next t' ∧
      Overlaid crc peer t t' := by
  refine ⟨_, _, rfl, rfl, overlaid_of_eq ?_⟩
  rw [State.overlay_cfg]
  split <;> rfl

theorem execReport_overlaid (ep : Byte) (s : State) :
    ∃ t t', exec (.report ep) s = .next t ∧ exec (.report ep) (s.overlay crc peer) = .next t' ∧
      Overlaid crc peer t t' := by
  refine ⟨_, _, rfl, rfl, overlaid_of_eq ?_⟩
  rw [State.overlay_cfg, State.overlay_reportAll]
  split <;> rfl

/-- Every instruction carries the contents of CRC and PEER through or overwrites them; of CRC, every instruction but CRC.RD
and CRC.UPD. -/
theorem exec_overlaid (i : Instr) (s : State) (hcrc : crc = none ∨ i ≠ .crcRd ∧ ∀ b, i ≠ .crcUpd b) :
    ∃ t t', exec i s = .next t ∧ exec i (s.overlay crc peer) = .next t' ∧ Overlaid crc peer t t' := by
  cases i with
  | crcClr => exact ⟨_, _, rfl, rfl, overlaid_of_crc_written rfl⟩
  | crcUpd b =>
    obtain rfl := hcrc.resolve_right fun h => h.2 b rfl
    exact ⟨_, _, rfl, rfl, overlaid_of_eq rfl⟩
  | crcRd =>
    obtain rfl := hcrc.resolve_right fun h => h.1 rfl
    exact ⟨_, _, rfl, rfl, overlaid_of_eq rfl⟩
  | acqStart =>
    exact ⟨_, _, rfl, rfl, overlaid_of_eq (congrArg (State.returns · .none)
      (State.overlay_driveGate ((s.setFramer .scanning 0 [] none).setErr 0) true))⟩
  | acqPoll c => exact ⟨_, _, rfl, rfl, overlaid_of_eq (s.overlay_poll c)⟩
  | telegram => exact ⟨_, _, rfl, rfl, overlaid_of_eq (s.overlay_poll _)⟩
  | acqRel => exact execAcqRel_overlaid s
  | acqRd => exact execAcqRd_overlaid s
  | tverify => exact execTverify_overlaid s
  | attrWr k force v => exact execAttrWr_overlaid k force v s
  | attrTouch k force => exact execAttrTouch_overlaid k force s
  | attrRd k => exact execAttrRd_overlaid k s
  | dirtyClr ep => exact execDirtyClr_overlaid ep s
  | report ep => exact execReport_overlaid ep s
  | clReportAttr =>
    exact ⟨_, _, rfl, rfl, overlaid_of_eq (congrArg (State.returns · _) (s.overlay_sendReport _))⟩
  | frameRx env => exact (armsRelate_overlaid env s).frameRx rfl rfl rfl
  | mgSimpleDescReq r tseq addr endpoint =>
    exact ⟨_, _, rfl, rfl, overlaid_of_eq (s.overlay_simpleDesc r tseq addr endpoint)⟩
  | mgNwkAddrRsp | mgIeeeAddrRsp => exact ⟨_, _, rfl, rfl, overlaid_of_peer_written rfl⟩
  | reset => exact ⟨_, _, rfl, rfl, overlaid_of_overwritten (congrArg (State.returns · .none) s.overlay_resetElements)⟩
  | _ => exact ⟨_, _, rfl, rfl, overlaid_of_eq rfl⟩

/-- Settles O16: PEER laid over is carried through or overwritten, so it is the only difference. -/
theorem peerInfluencesNothing : Obligations.PeerInfluencesNothing := by
  intro i s t p hexec
  obtain ⟨t₀, u, ht, hu, hover⟩ := exec_overlaid (crc := none) (peer := some p) i s (.inl rfl)
  obtain ⟨c, hc, p', _, rfl⟩ := hover
  obtain rfl : c = none := by simpa using hc
  cases hexec.symm.trans ht
  exact ⟨_, hu, rfl⟩

/-- Settles O17: the same for CRC, of every operation that does not read it. -/
theorem accumulatorInfluencesOnlyItsOperations : Obligations.AccumulatorInfluencesOnlyItsOperations := by
  intro i s t v hrd hupd hexec
  obtain ⟨t₀, u, ht, hu, hover⟩ := exec_overlaid (crc := some v) (peer := none) i s (.inr ⟨hrd, hupd⟩)
  obtain ⟨c, _, p, hp, rfl⟩ := hover
  obtain rfl : p = none := by simpa using hp
  cases hexec.symm.trans ht
  exact ⟨_, hu, rfl⟩

end Sys2Proof.Machine
end

section
/-! The queue of inputs (20_memory.md section 7, R70; 00_scope.md section 4, R14; log entry 2). -/

namespace Sys2Proof.Machine

variable {s : State} {p : Input} {rest : List Input} {i : Instr}

/-- The branch of a step under a configuration of R303 (U7), with an input waiting that stands for an instruction. -/
theorem step_of_decode_ok (hwf : s.cfg.WellFormed) (hp : s.pending = p :: rest) (hi : decode s.cfg p = .ok i) :
    step s = exec i (s.setPending rest) := by
  rw [step, if_pos hwf, hp]
  simp only [hi]

/-- Settles O7: taking the input from the queue sets the queue to its rest and nothing else. -/
theorem stepRunsTheDecodedInput : Obligations.StepRunsTheDecodedInput :=
  fun _ _ _ _ hwf hp hi => step_of_decode_ok hwf hp hi

end Sys2Proof.Machine
end

section
/-! The encodings of 30_encoding.md, as facts about the bytes: the ids of a read request, the frames the block sends, the
reserved codes, and where the markers stand in a telegram. -/

namespace Sys2Proof

/-! ### The ids of a read request (R100, R234) -/

theorem idsOf_length : ∀ args : List Byte, (idsOf args).length = args.length / 2
  | [] => rfl
  | [_] => by simp [idsOf]
  | _ :: _ :: rest => by
    simp only [idsOf, List.length_cons, idsOf_length rest]
    omega

/-- The id at place `j` is made of the bytes at the places `2 * j` and `2 * j + 1`, the first one the least significant. -/
theorem idsOf_getElem? :
    ∀ (args : List Byte) {j : Nat}, j < args.length / 2 →
      (idsOf args)[j]? = some (BitVec.ofNat 16 (fromLe ((args.drop (2 * j)).take 2)))
  | [], _, hj => by simp at hj
  | [_], _, hj => by simp at hj
  | _ :: _ :: _, 0, _ => rfl
  | _ :: _ :: rest, j + 1, hj => by
    have hj' : j < rest.length / 2 := by
      simp only [List.length_cons] at hj
      omega
    exact idsOf_getElem? rest hj'

/-! ### Frames (R98, R99, R253, R255) -/

theorem AttrRecord.bytes_length (r : AttrRecord) : r.bytes.length = 3 + r.value.length := by
  simp only [AttrRecord.bytes, List.length_append, le16_length, List.length_cons]
  omega

theorem reportFrame_length (w : Wire) (seq : Byte) (records : List AttrRecord) :
    (reportFrame w seq records).length = 3 + (records.map fun r => 3 + r.value.length).sum := by
  simp only [reportFrame, List.length_cons, List.length_flatMap, AttrRecord.bytes_length]
  omega

theorem simpleDescRspFrame_eq (w : Wire) (tseq : Byte) (addr : Half) (len : Byte) (e : EpDesc) :
    simpleDescRspFrame w tseq addr len e = [tseq, w.stSuccess] ++ le16 addr ++ [len] ++ e.bytes := by
  simp [simpleDescRspFrame]

theorem activeEpRspFrame_eq (w : Wire) (tseq : Byte) (addr : Half) (eps : List Byte) :
    activeEpRspFrame w tseq addr eps
      = [tseq, w.stSuccess] ++ le16 addr ++ [BitVec.ofNat 8 eps.length] ++ eps := by
  simp [activeEpRspFrame, countByte]

/-! ### Reserved codes (R112) -/

/-- The codes that are an operation's (R91). -/
def operationCodes : List Byte :=
  [0x00, 0x01, 0x02, 0x03, 0x10, 0x11, 0x12, 0x13, 0x20, 0x30, 0x31, 0x32, 0x33, 0x40, 0x50, 0xF0, 0xF1]

/-- The rows of the reserved codes, with a code and the bytes after it. -/
def reservedRows (code : Byte) (ops : List Byte) : List Instr :=
  [ .reserved04To0F code ops, .reserved14To1F code ops, .reserved21To2F code ops, .reserved34To3F code ops,
    .reserved41To4F code ops, .reserved51ToEF code ops, .reservedF2ToFF code ops ]

/-- Of a code that is no operation's the decoder asks only for its range, and each range's answer is a reserved row. -/
theorem decodeHost_of_notMem_operationCodes {code : Byte} (hcode : code ∉ operationCodes) (ops : List Byte) :
    ∃ i ∈ reservedRows code ops, decodeHost (code :: ops) = .ok i := by
  simp only [operationCodes, List.mem_cons, List.not_mem_nil, or_false, not_or] at hcode
  simp only [decodeHost, decodeCommand, hcode, if_false]
  repeat' split
  all_goals exact ⟨_, by simp [reservedRows], rfl⟩

/-! ### Telegrams (R93) -/

variable {c : Config} {body digits : List Byte}

theorem telegramBytes_length : (telegramBytes c body digits).length = body.length + 1 + 1 + digits.length := by
  simp only [telegramBytes, List.length_cons, List.length_append]
  omega

theorem findByte_startMark_telegramBytes : findByte c.startMark (telegramBytes c body digits) = some 0 :=
  Machine.findByte_eq_some.mpr ⟨rfl, List.not_mem_nil⟩

/-- The first end marker of a telegram is the one after its body. -/
theorem findByte_endMark_telegramBytes (hmarks : c.startMark ≠ c.endMark) (hbody : c.endMark ∉ body) :
    findByte c.endMark (telegramBytes c body digits) = some (body.length + 1) := by
  refine Machine.findByte_eq_some.mpr ⟨?_, ?_⟩
  · simp [telegramBytes]
  · simpa [telegramBytes] using ⟨hmarks.symm, hbody⟩

theorem Instr.wf_telegram :
    (Instr.telegram body digits).wf c = true ↔ c.endMark ∉ body ∧ digits.length = c.csumDigits := by
  simp [Instr.wf]

end Sys2Proof
end

section
/-! The encodings of 30_encoding.md at work: which records a report has, what the outbound rows and the reserved codes do,
and a whole telegram in one chunk. -/

namespace Sys2Proof.Machine

/-- Settles O6: the ids take the bytes two by two, so place `j` of the ids is place `2 * j` of the bytes. -/
theorem readRequestIdsAreLittleEndianPairs : Obligations.ReadRequestIdsAreLittleEndianPairs :=
  fun args => ⟨idsOf_length args, fun _ hj => idsOf_getElem? args hj⟩

/-- Settles O4: the decoder, run on these words and frames. -/
theorem tableWordsDecode : Obligations.TableWordsDecode := ⟨rfl, rfl, rfl, rfl, rfl, rfl, rfl, rfl⟩

/-! ### Reserved codes (R112, R271; log entry 9) -/

theorem exec_of_mem_reservedRows {code : Byte} {ops : List Byte} {i : Instr} (hi : i ∈ reservedRows code ops) (s : State) :
    exec i s = .next s.illegal := by
  simp only [reservedRows, List.mem_cons, List.not_mem_nil, or_false] at hi
  rcases hi with rfl | rfl | rfl | rfl | rfl | rfl | rfl <;> rfl

/-- Settles O5: what a reserved code decodes to is a reserved row, and every such row is refused. -/
theorem reservedCodesAreIllegalOperations : Obligations.ReservedCodesAreIllegalOperations := by
  intro code ops s
  have hrows : ∀ i ∈ reservedRows code ops, exec i s = .next s.illegal := fun _ hi => exec_of_mem_reservedRows hi s
  refine ⟨fun hcode => ?_, by simpa [reservedRows] using hrows⟩
  obtain ⟨i, hi, hdecode⟩ := decodeHost_of_notMem_operationCodes hcode ops
  exact ⟨i, hdecode, hrows i hi⟩

/-! ### The records of a report (R99, R211, R217) -/

/-- The type tag of a key; 0 for a key that ATTR_TABLE lacks. -/
def State.tagOf (s : State) (k : Key) : Byte := ((s.cfg.row k).map AttrRow.tag).getD 0

/-- The record of a key whose value is set (`record_of_value_isSome`). -/
def State.setRecord (s : State) (k : Key) : AttrRecord := ⟨k.id, s.tagOf k, (s.value k).getD []⟩

/-- A key has a record exactly if its value is set (R99, R211). -/
theorem State.record_eq (s : State) (k : Key) : s.record k = (s.value k).map fun v => ⟨k.id, s.tagOf k, v⟩ := by
  unfold State.record State.value State.tagOf
  cases s.cfg.row k <;> rfl

theorem State.record_of_value_isSome {s : State} {k : Key} (h : (s.value k).isSome = true) :
    s.record k = some (s.setRecord k) := by
  obtain ⟨v, hv⟩ := Option.isSome_iff_exists.mp h
  simp [State.record_eq, State.setRecord, hv]

theorem State.filterMap_record {s : State} {ms : List Key} (h : ∀ k ∈ ms, (s.value k).isSome = true) :
    ms.filterMap s.record = ms.map s.setRecord := by
  rw [← List.filterMap_eq_map]
  exact List.filterMap_congr fun k hk => State.record_of_value_isSome (h k hk)

/-- Settles O47: the records of keys with set values are those of the keys one by one, and R99 writes each out. -/
theorem reportFrameLayout : Obligations.ReportFrameLayout := by
  intro s seq ms hset val tag bytes frame
  have hframe : frame = reportFrame s.cfg.wire seq (ms.map s.setRecord) :=
    congrArg (reportFrame s.cfg.wire seq) (State.filterMap_record hset)
  have hbytes : AttrRecord.bytes ∘ s.setRecord = bytes := rfl
  refine ⟨?layout, ?length, ?unset⟩
  case layout =>
    rw [hframe, reportFrame, List.flatMap_def, List.map_map, hbytes]
    rfl
  case length =>
    rw [hframe, reportFrame_length, List.map_map]
    rfl
  case unset =>
    intro k hk
    rw [State.record_eq, hk, Option.map_none]

/-! ### The outbound rows (R98, R101, R214, R253 to R257, R261; log entries 6 and 17) -/

theorem State.respond_eq_responded (s : State) (tx : TxEnvelope) : s.respond tx = s.responded tx := s.respond_eq tx

theorem State.mgRespond_eq_responded (s : State) (r : Route) (cluster : Half) (frame : List Byte) :
    s.mgRespond r cluster frame = s.responded ⟨r, cluster, s.cfg.wire.mgProfile, frame⟩ := s.respond_eq_responded _

theorem exec_clReportAttr (r : Route) (cluster profile : Half) (seq : Byte) (records : List AttrRecord) (s : State) :
    exec (.clReportAttr r cluster profile seq records) s = .next
      { s with
        seq := s.seq + (if s.txAnswer then 1 else 0)
        txAnswers := s.txAnswers.tail
        freeIdx := s.freeIdx + 1
        trace := s.trace ++ [.transmit ⟨r, cluster, profile, reportFrame s.cfg.wire seq records⟩ s.txAnswer]
        ret := ⟨.ok, .reports [(reportFrame s.cfg.wire seq records, cluster, s.txAnswer)]⟩ } := by
  have hseq : s.seq + (if s.txAnswer then 1 else 0) = if s.txAnswer then s.seq + 1 else s.seq := by
    rw [add_ite, add_zero]
  rw [hseq]
  exact congrArg (fun t => Host.Outcome.next (State.returns t _)) (s.sendReport_eq _)

/-- Settles O57, row by row: a response row is one hand-over, and the report row also counts SEQ when accepted. -/
theorem outboundRowsHandOverTheirFrame : Obligations.OutboundRowsHandOverTheirFrame := by
  intro r cluster profile addr seq len results records e eps s w
  refine ⟨?readAttrRsp, ?reportAttr, ?simpleDesc, ?activeEp, ?bind, ?unbind⟩
  case readAttrRsp => exact congrArg Host.Outcome.next (s.respond_eq_responded _)
  case reportAttr => exact exec_clReportAttr r cluster profile seq records s
  case simpleDesc =>
    rw [← simpleDescRspFrame_eq]
    exact congrArg Host.Outcome.next (s.mgRespond_eq_responded r w.mgSimpleDescRsp _)
  case activeEp =>
    rw [← activeEpRspFrame_eq]
    exact congrArg Host.Outcome.next (s.mgRespond_eq_responded r w.mgActiveEpRsp _)
  case bind => exact congrArg Host.Outcome.next (s.mgRespond_eq_responded r w.mgBindRsp _)
  case unbind => exact congrArg Host.Outcome.next (s.mgRespond_eq_responded r w.mgUnbindRsp _)

/-! ### A whole telegram in one chunk (R93, R153, R156, R157; log entry 8) -/

variable {s : State} {body digits : List Byte}

/-- A poll in SCANNING whose chunk, from its first start marker on, holds a whole telegram completes the acquisition
(R153, R156, R157). -/
theorem State.poll_of_scanning_completed {chunk : List Byte} {i j : Nat} (hscan : s.fstate = .scanning)
    (hstart : findByte s.cfg.startMark chunk = some i) (hfit : s.cfg.fits (chunk.drop i).length = true)
    (hend : findByte s.cfg.endMark (chunk.drop i) = some j)
    (hwhole : j + 1 + s.cfg.csumDigits ≤ (chunk.drop i).length) : s.poll chunk = s.completed (chunk.drop i) j := by
  have hadvance := State.advance_body_complete (s := s.setFramer .body 0 (chunk.drop i) s.bang) rfl hend hwhole
  simp only [State.poll, hscan, State.pollScanning, hstart, hfit, if_true, hadvance, State.completed,
    State.traceGateDown_eq]
  rfl

theorem State.poll_telegramBytes (hscan : s.fstate = .scanning) (hmarks : s.cfg.startMark ≠ s.cfg.endMark)
    (hbody : s.cfg.endMark ∉ body) (hdigits : digits.length = s.cfg.csumDigits)
    (hfit : s.cfg.fits (telegramBytes s.cfg body digits).length = true) :
    s.poll (telegramBytes s.cfg body digits) = s.completed (telegramBytes s.cfg body digits) (body.length + 1) :=
  State.poll_of_scanning_completed (i := 0) hscan findByte_startMark_telegramBytes hfit
    (findByte_endMark_telegramBytes hmarks hbody) (by simp [telegramBytes_length, hdigits])

/-- Nothing follows a telegram in its own bytes, so `complete()` trims nothing (R157). -/
theorem State.completed_telegramBytes_tbuf (hdigits : digits.length = s.cfg.csumDigits) :
    (s.completed (telegramBytes s.cfg body digits) (body.length + 1)).tbuf = telegramBytes s.cfg body digits :=
  List.take_of_length_le (by rw [telegramBytes_length, hdigits])

/-- Settles O32: TELEGRAM is the poll of its bytes, whose first start marker opens them and whose first end marker ends the
body. -/
theorem telegramInOneChunkIsFramed : Obligations.TelegramInOneChunkIsFramed := by
  intro s body digits
  refine ⟨rfl, fun hscan hmarks hwf hfit => ?_⟩
  obtain ⟨hbody, hdigits⟩ := Instr.wf_telegram.mp hwf
  have hpoll := State.poll_telegramBytes hscan hmarks hbody hdigits hfit
  exact ⟨_, congrArg Host.Outcome.next hpoll, rfl, State.completed_telegramBytes_tbuf hdigits, rfl, rfl, rfl, rfl⟩

end Sys2Proof.Machine
end

section
/-! The checksum engine (40_checksum.md R130 to R136): `crc_step` in its bitwise form, what its operations do, and the
residue. The shift register is linear over XOR; the low byte of its contents selects the table entry, and the high byte only
moves down. -/

namespace Sys2Proof

/-- The low byte and the high byte, as fields of the word (R12, R62). -/
theorem le16_eq_setWidth (v : Half) : le16 v = [v.setWidth 8, (v >>> 8).setWidth 8] := by
  have hhigh : BitVec.ofNat 8 (v.toNat / 256) = (v >>> 8).setWidth 8 := by
    apply BitVec.eq_of_toNat_eq
    simp [Nat.shiftRight_eq_div_pow]
  rw [le16_eq, hhigh, BitVec.ofNat_toNat]

end Sys2Proof

namespace Sys2Proof.Machine

/-! ### The two forms of `crc_step` (R61, R131) -/

theorem half_xor_right_comm (a b p : Half) : (a ^^^ b) ^^^ p = (a ^^^ p) ^^^ b := by ac_rfl

/-- The polynomial, added on both sides, cancels. -/
theorem half_xor_xor_cancel (a b p : Half) : (a ^^^ p) ^^^ (b ^^^ p) = a ^^^ b := by
  calc (a ^^^ p) ^^^ (b ^^^ p) = (a ^^^ b) ^^^ (p ^^^ p) := by ac_rfl
    _ = a ^^^ b := by rw [BitVec.xor_self, BitVec.xor_zero]

theorem crcShift_xor (a b : Half) : crcShift (a ^^^ b) = crcShift a ^^^ crcShift b := by
  simp only [crcShift, BitVec.getLsbD_xor, BitVec.ushiftRight_xor_distrib]
  cases a.getLsbD 0 <;> cases b.getLsbD 0
  case false.false => rfl
  case false.true => exact BitVec.xor_assoc _ _ _
  case true.false => exact half_xor_right_comm _ _ _
  case true.true => exact (half_xor_xor_cancel _ _ _).symm

theorem crcShift8_xor (a b : Half) : crcShift8 (a ^^^ b) = crcShift8 a ^^^ crcShift8 b := by
  simp only [crcShift8, crcShift_xor]

theorem crcShift_shiftRight {v : Half} {n : Nat} (h : v.getLsbD n = false) : crcShift (v >>> n) = v >>> (n + 1) := by
  have hlow : (v >>> n).getLsbD 0 = false := by rwa [BitVec.getLsbD_ushiftRight, Nat.add_zero]
  rw [crcShift, hlow, if_neg Bool.false_ne_true, BitVec.shiftRight_add]

/-- Over a low byte of 0 the polynomial is added in none of the eight shifts. -/
theorem crcShift8_of_lowByte_zero {v : Half} (h : v.setWidth 8 = 0) : crcShift8 v = v >>> 8 := by
  have hbit : ∀ i < 8, v.getLsbD i = false := fun i hi => by
    simpa [hi] using congrArg (BitVec.getLsbD · i) h
  calc crcShift8 v = crcShift8 (v >>> 0) := by rw [BitVec.ushiftRight_zero]
    _ = v >>> 8 := by simp only [crcShift8, crcShift_shiftRight, hbit, Nat.reduceLT, Nat.reduceAdd]

theorem setWidth_byte_shiftRight (b : Byte) : b.setWidth 16 >>> 8 = 0 := by
  apply BitVec.eq_of_toNat_eq
  rw [BitVec.toNat_ushiftRight, BitVec.toNat_setWidth_of_le (by decide), Nat.shiftRight_eq_div_pow]
  exact Nat.div_eq_of_lt b.isLt

theorem xor_byte_shiftRight (c : Half) (b : Byte) : (c ^^^ b.setWidth 16) >>> 8 = c >>> 8 := by
  rw [BitVec.ushiftRight_xor_distrib, setWidth_byte_shiftRight]
  exact BitVec.xor_zero

/-- Eight shifts, by parts of the word: the table entry of the low byte, and the high byte moved down. -/
theorem crcShift8_eq_entry_xor (v : Half) : crcShift8 v = crcEntry (v.setWidth 8) ^^^ (v >>> 8) := by
  have hclear : (v ^^^ (v.setWidth 8).setWidth 16).setWidth 8 = 0 := by simp
  have hsplit : v = (v.setWidth 8).setWidth 16 ^^^ (v ^^^ (v.setWidth 8).setWidth 16) := by
    rw [BitVec.xor_comm v, ← BitVec.xor_assoc, BitVec.xor_self, BitVec.zero_xor]
  calc crcShift8 v
      = crcShift8 ((v.setWidth 8).setWidth 16) ^^^ crcShift8 (v ^^^ (v.setWidth 8).setWidth 16) := by
        rw [← crcShift8_xor, ← hsplit]
    _ = crcEntry (v.setWidth 8) ^^^ (v >>> 8) := by
        rw [crcEntry_eq, crcShift8_of_lowByte_zero hclear, xor_byte_shiftRight]

/-- R131: the table form of `crc_step` and its bitwise form are one function. -/
theorem crcStep_eq_bits (c : Half) (b : Byte) : crcStep c b = crcStepBits c b := by
  rw [crcStep, crcStepBits, crcShift8_eq_entry_xor, xor_byte_shiftRight]

theorem crc16_eq_bits (p : List Byte) : crc16 p = p.foldl crcStepBits 0x0000 := by
  have hstep : crcStep = crcStepBits := funext₂ crcStep_eq_bits
  rw [crc16, hstep]

/-! ### What the operations do (R132 to R135) -/

theorem exec_crcClr (s : State) : exec .crcClr s = .next ((s.setCrc 0x0000).returns .none) := rfl

theorem exec_crcUpd (b : Byte) (s : State) :
    exec (.crcUpd b) s = .next ((s.setCrc (crcStep s.crc b)).returns .none) := rfl

theorem exec_crcRd (s : State) : exec .crcRd s = .next (s.returns (.word s.crc)) := rfl

theorem exec_csum (p : List Byte) (s : State) : exec (.csum p) s = .next (s.returns (.word (crc16 p))) := rfl

/-- Settles O18: the meanings of the operations, with the bitwise form of `crc_step` for its table. -/
theorem checksumOperationsInBitwiseForm : Obligations.ChecksumOperationsInBitwiseForm := by
  intro b p s
  refine ⟨exec_crcClr s, ?_, exec_crcRd s, ?_⟩
  · rw [exec_crcUpd, crcStep_eq_bits]
    rfl
  · rw [exec_csum, crc16_eq_bits]
    rfl

/-! ### The stepwise form (R117, R136 (d)) -/

/-- CRC.UPD of each byte folds `crc_step` over the bytes, from any contents of the accumulator. -/
theorem runOps_crcUpds (p : List Byte) (c : Half) (s : State) :
    runOps (p.map .crcUpd) ((s.setCrc c).returns .none) = .next ((s.setCrc (p.foldl crcStep c)).returns .none) := by
  induction p generalizing c with
  | nil => rfl
  | cons b p ih => exact ih (crcStep c b)

theorem runOps_checksumOps (p : List Byte) (s : State) :
    runOps (checksumOps p) s = .next ((s.setCrc (crc16 p)).returns (.word (crc16 p))) := by
  calc runOps (checksumOps p) s
      = runOps (p.map .crcUpd ++ [.crcRd]) ((s.setCrc 0x0000).returns .none) := by
        rw [checksumOps, runOps, exec_crcClr]
    _ = runOps [.crcRd] ((s.setCrc (crc16 p)).returns .none) := runOps_append (runOps_crcUpds p 0x0000 s)
    _ = .next ((s.setCrc (crc16 p)).returns (.word (crc16 p))) := rfl

/-- Settles O19: both end with `crc16` as the returned word; the stepwise form leaves it in CRC as well. -/
theorem stepwiseChecksumEqualsOneShot : Obligations.StepwiseChecksumEqualsOneShot :=
  fun p s => ⟨_, _, runOps_checksumOps p s, exec_csum p s, rfl, rfl⟩

/-! ### The residue (R136 (f)) -/

/-- The byte that equals the low byte of the register selects entry 0, which is 0: the register only moves down. -/
theorem crcStep_lowByte (c : Half) : crcStep c (c.setWidth 8) = c >>> 8 := by
  have hindex : (c ^^^ (c.setWidth 8).setWidth 16).setWidth 8 = 0 := by simp
  have hentry : crcEntry 0 = 0 := rfl
  rw [crcStep, hindex, hentry]
  exact BitVec.zero_xor

/-- Settles O20: the two bytes of the checksum move the register down twice, by its whole width. -/
theorem checksumOfChecksummedSequenceIsZero : Obligations.ChecksumOfChecksummedSequenceIsZero := by
  intro p
  have hdown (c : Half) : c >>> 8 >>> 8 = 0 := by
    rw [← BitVec.shiftRight_add]
    exact BitVec.ushiftRight_eq_zero le_rfl
  rw [crc16_append, le16_eq_setWidth, List.foldl_cons, List.foldl_cons, List.foldl_nil, crcStep_lowByte, crcStep_lowByte,
    hdown]

end Sys2Proof.Machine
end

section
/-! The framer's operations (41_framer.md R151 to R161): the state ACQ.START leaves, what one poll answers in SCANNING, BODY
and TAIL, where the other operations are admitted, and which changes of FSTATE there are. -/

namespace Sys2Proof.Machine

/-! ### ACQ.START, ACQ.REL and ACQ.RD (R151, R159, R167) -/

/-- An acquisition begun afresh (R151); `exec_acqStart_eq` says that it is what ACQ.START does. -/
def State.started (s : State) : State :=
  { s with
    fstate := .scanning, polls := 0, tbuf := [], bang := none, gate := true, err := 0
    trace := if s.gate then s.trace else s.trace ++ [.setReady true], ret := ⟨.ok, .none⟩ }

theorem exec_acqStart_eq (s : State) : exec .acqStart s = .next s.started :=
  congrArg (fun t => Host.Outcome.next (State.returns t .none)) (State.driveGate_eq _ _)

/-- Settles O22: driving the gate up is a call of `set_ready` only where it was down. -/
theorem acqStartBeginsAfresh : Obligations.AcqStartBeginsAfresh := exec_acqStart_eq

theorem exec_acqPoll (c : List Byte) (s : State) : exec (.acqPoll c) s = .next (s.poll c) := rfl

theorem exec_acqRel_admitted {s : State} (h : s.fstate = .complete ∨ s.fstate = .idle) :
    exec .acqRel s = .next (s.toIdle.returns .none) := congrArg Host.Outcome.next (if_pos h)

theorem exec_acqRel_refused {s : State} (hc : s.fstate ≠ .complete) (hi : s.fstate ≠ .idle) :
    exec .acqRel s = .next s.illegal := congrArg Host.Outcome.next (if_neg fun h => h.elim hc hi)

theorem exec_acqRd_admitted {s : State} (h : s.fstate = .complete) :
    exec .acqRd s = .next (s.returns (.bytes s.tbuf)) := congrArg Host.Outcome.next (if_pos h)

theorem exec_acqRd_refused {s : State} (h : s.fstate ≠ .complete) : exec .acqRd s = .next s.illegal :=
  congrArg Host.Outcome.next (if_neg h)

/-! ### What a poll can answer in any state (R152, R161) -/

theorem FState.acquiring_eq_false {f : FState} : f.acquiring = false ↔ f = .complete ∨ f = .idle := by
  cases f <;> simp [FState.acquiring]

theorem State.poll_refused {s : State} (h : s.fstate.acquiring = false) (c : List Byte) : s.poll c = s.illegal := by
  rcases FState.acquiring_eq_false.mp h with hf | hf <;> simp only [State.poll, hf] <;> rfl

/-- A poll during an acquisition goes on, completes, times out or overflows; it is not refused (R152, R160). -/
theorem State.poll_status {s : State} (h : s.fstate.acquiring = true) (c : List Byte) :
    (s.poll c).ret.status ∈ [.ok, .acquisitionTimeout, .bufferOverflow] := by
  rcases s.poll_cases c with ⟨hn, _⟩ | ⟨_, hp | hp⟩ | ⟨_, _, hp⟩ | ⟨_, _, _, _, _, _, ⟨_, hp⟩ | ⟨_, _, ⟨_, hp⟩ | ⟨_, hp⟩⟩⟩ |
    ⟨_, _, _, _, ⟨_, _, hp⟩ | ⟨_, _, ⟨_, hp⟩ | ⟨_, hp⟩⟩⟩ | ⟨_, _, _, _, ⟨_, _, hp⟩ | ⟨_, _, _, hp⟩⟩
  case inl => cases hn.symm.trans h
  all_goals simp [hp, State.failed, State.acquiring, State.completed]

/-- Settles O26. -/
theorem releaseAndReadOnlyWhereAdmitted : Obligations.ReleaseAndReadOnlyWhereAdmitted := by
  intro c s
  refine ⟨fun h => ⟨exec_acqRel_admitted h, ?_⟩, exec_acqRel_refused, exec_acqRd_admitted, exec_acqRd_refused,
    fun hc hi => ⟨_, exec_acqPoll c s, State.poll_status ?_ c⟩⟩
  · rw [exec_acqPoll, State.poll_refused (FState.acquiring_eq_false.mpr h)]
  · exact Bool.eq_true_of_not_eq_false fun h => (FState.acquiring_eq_false.mp h).elim hc hi

/-- The changes of FSTATE by a poll (R161). -/
def pollTransitions : List (FState × FState) :=
  [(.scanning, .idle), (.scanning, .body), (.scanning, .tail), (.scanning, .complete), (.body, .idle), (.body, .tail),
    (.body, .complete), (.tail, .idle), (.tail, .complete)]

theorem mem_pollTransitions_idle {f : FState} (h : f.acquiring = true) : (f, .idle) ∈ pollTransitions := by
  cases f with
  | idle | complete => cases h
  | scanning | body | tail => simp [pollTransitions]

/-- A poll changes FSTATE along the table of R161, or not at all. -/
theorem State.poll_transition (s : State) (c : List Byte) :
    (s.poll c).fstate = s.fstate ∨ (s.fstate, (s.poll c).fstate) ∈ pollTransitions := by
  rcases s.poll_cases c with ⟨_, hp⟩ | ⟨ha, hp | hp⟩ | ⟨hf, _, hp⟩ |
    ⟨_, _, hf, _, _, _, ⟨_, hp⟩ | ⟨_, _, ⟨_, hp⟩ | ⟨_, hp⟩⟩⟩ |
    ⟨_, hf, _, _, ⟨_, _, hp⟩ | ⟨_, _, ⟨_, hp⟩ | ⟨_, hp⟩⟩⟩ | ⟨_, hf, _, _, ⟨_, _, hp⟩ | ⟨_, _, _, hp⟩⟩ <;> rw [hp]
  case inl => exact .inl rfl
  case inr.inl.inl => exact .inr (mem_pollTransitions_idle ha)
  case inr.inl.inr => exact .inr (mem_pollTransitions_idle ha)
  all_goals rw [hf]; simp [pollTransitions, State.acquiring, State.completed]

/-- Settles O27: the effects that write FSTATE are those of ACQ.START, a poll, ACQ.REL, TVERIFY and RESET. -/
theorem framerTransitionsAreComplete : Obligations.FramerTransitionsAreComplete := by
  intro i s t hexec hne
  have hcomplete (ha : s.fstate.acquiring = false) (hs : FState.idle ≠ s.fstate) : s.fstate = .complete :=
    (FState.acquiring_eq_false.mp ha).resolve_right hs.symm
  cases effect_of_exec hexec with
  | start => exact .inl ⟨rfl, rfl⟩
  | reset => exact .inr (.inl ⟨rfl, rfl⟩)
  | poll c hi =>
    have hpoll : (∃ c, i = .acqPoll c) ∨ ∃ b d, i = .telegram b d :=
      hi.imp (fun h => ⟨c, h⟩) fun ⟨b, d, h, _⟩ => ⟨b, d, h⟩
    exact .inr (.inr (.inl ⟨hpoll, (s.poll_transition c).resolve_left hne⟩))
  | release ha => exact .inr (.inr (.inr (.inl ⟨rfl, hcomplete ha hne, rfl⟩)))
  | mismatch ha => exact .inr (.inr (.inr (.inr ⟨rfl, hcomplete ha hne, rfl⟩)))
  | _ => exact absurd rfl hne

/-! ### The end of a poll (R153 to R158, R279) -/

variable {s : State} {b c : List Byte} {i j n : Nat}

/-- A poll that stays in its state counts, and spends the budget or goes on (R153 to R155). -/
theorem State.endPoll_setFramer (f : FState) (bang : Option Nat) (budget : Nat) :
    (s.setFramer f n b bang).endPoll f budget
      = if n = budget then s.failed .acquisitionTimeout else s.acquiring f n b bang := by
  simp only [State.endPoll, State.setFramer_fstate, State.setFramer_polls, true_and, State.failAcquisition_eq_failed]
  rfl

/-- A poll that left its state is not held to the state's budget (R279). -/
theorem State.endPoll_of_left {f : FState} (h : s.fstate ≠ f) (budget : Nat) :
    s.endPoll f budget = s.returns (.framer s.fstate) := if_neg fun ⟨hf, _⟩ => h hf

/-- Where a buffer `b` with its first end marker at `j` leads: COMPLETE if the telegram is whole, else TAIL (R156, R157). -/
def State.ended (s : State) (b : List Byte) (j : Nat) : State :=
  if j + 1 + s.cfg.csumDigits ≤ b.length then s.completed b j else s.acquiring .tail 0 b (some j)

theorem State.ended_of_whole (h : j + 1 + s.cfg.csumDigits ≤ b.length) : s.ended b j = s.completed b j := if_pos h

theorem State.ended_of_short (h : b.length < j + 1 + s.cfg.csumDigits) : s.ended b j = s.acquiring .tail 0 b (some j) :=
  if_neg (Nat.not_le.mpr h)

/-- `advance()` over a buffer in BODY with an end marker leaves BODY, and what the poll then returns is `ended` (R156). -/
theorem State.advance_of_ended (hend : findByte s.cfg.endMark b = some j) (bang : Option Nat) :
    (s.setFramer .body n b bang).advance.fstate ≠ .body ∧
    (s.setFramer .body n b bang).advance.returns (.framer (s.setFramer .body n b bang).advance.fstate) = s.ended b j := by
  by_cases hl : j + 1 + s.cfg.csumDigits ≤ b.length
  · rw [State.advance_body_complete (s := s.setFramer .body n b bang) rfl hend hl, State.ended_of_whole hl,
      State.completed, State.traceGateDown_eq]
    exact ⟨by simp, rfl⟩
  · have hl := Nat.not_le.mp hl
    rw [State.advance_body_tail (s := s.setFramer .body n b bang) rfl hend hl, State.ended_of_short hl]
    exact ⟨by simp, rfl⟩

/-! ### ACQ.POLL in SCANNING (R153) -/

theorem State.poll_scanning (h : s.fstate = .scanning) (c : List Byte) : s.poll c = s.pollScanning c := by
  simp only [State.poll, h]

theorem State.poll_scanning_missed (h : s.fstate = .scanning) (hc : s.cfg.startMark ∉ c) :
    s.poll c = if s.polls + 1 = s.cfg.n1 then s.failed .acquisitionTimeout
      else s.acquiring .scanning (s.polls + 1) s.tbuf s.bang := by
  rw [State.poll_scanning h, State.pollScanning, findByte_eq_none.mpr hc]
  exact State.endPoll_setFramer _ _ _

theorem State.poll_scanning_overflow (h : s.fstate = .scanning) (hstart : findByte s.cfg.startMark c = some i)
    (hfit : s.cfg.fits (c.drop i).length = false) : s.poll c = s.failed .bufferOverflow := by
  simp only [State.poll_scanning h, State.pollScanning, hstart, hfit, Bool.false_eq_true, if_false,
    State.failAcquisition_eq_failed]

theorem State.poll_scanning_started (h : s.fstate = .scanning) (hstart : findByte s.cfg.startMark c = some i)
    (hfit : s.cfg.fits (c.drop i).length = true) (hend : s.cfg.endMark ∉ c.drop i) :
    s.poll c = s.acquiring .body 0 (c.drop i) s.bang := by
  have hadvance := State.advance_body_none (s := s.setFramer .body 0 (c.drop i) s.bang) rfl (findByte_eq_none.mpr hend)
  simp only [State.poll_scanning h, State.pollScanning, hstart, hfit, if_true, hadvance]
  rfl

theorem State.poll_scanning_ended (h : s.fstate = .scanning) (hstart : findByte s.cfg.startMark c = some i)
    (hfit : s.cfg.fits (c.drop i).length = true) (hend : findByte s.cfg.endMark (c.drop i) = some j) :
    s.poll c = s.ended (c.drop i) j := by
  obtain ⟨_, hreturns⟩ := State.advance_of_ended (n := 0) hend s.bang
  simp only [State.poll_scanning h, State.pollScanning, hstart, hfit, if_true, hreturns]

theorem findByte_append_cons {m : Byte} {pre : List Byte} (h : m ∉ pre) (l : List Byte) :
    findByte m (pre ++ m :: l) = some pre.length :=
  findByte_eq_some.mpr ⟨by simp, by simpa using h⟩

/-- Settles O23: the chunk is searched for the start marker, and what stands from there on for the end marker. -/
theorem pollInScanning : Obligations.PollInScanning := by
  intro c s hf
  simp only [exec_acqPoll]
  refine ⟨fun hc hn => ?_, fun hc hn => ?_, fun pre b hc hpre => ?_⟩
  · rw [State.poll_scanning_missed hf hc, if_neg hn]
  · rw [State.poll_scanning_missed hf hc, if_pos hn]
  · have hstart : findByte s.cfg.startMark c = some pre.length := hc ▸ findByte_append_cons hpre b
    have hdrop : c.drop pre.length = s.cfg.startMark :: b := by rw [hc, List.drop_left]
    refine ⟨fun hfit => ?_, fun hfit hend => ?_, fun j hfit hend => ?_⟩
    · rw [State.poll_scanning_overflow hf hstart (by rwa [hdrop])]
    · rw [State.poll_scanning_started hf hstart (by rwa [hdrop]) (by rwa [hdrop]), hdrop]
    · rw [State.poll_scanning_ended hf hstart (by rwa [hdrop]) (by rwa [hdrop]), hdrop]
      exact ⟨fun hl => by rw [State.ended_of_short hl], fun hl => by rw [State.ended_of_whole hl]⟩

/-! ### ACQ.POLL in BODY (R154) -/

theorem State.poll_body (h : s.fstate = .body) (c : List Byte) : s.poll c = s.pollBody c := by
  simp only [State.poll, h]

theorem State.poll_body_overflow (h : s.fstate = .body) (hfit : s.cfg.fits (s.tbuf ++ c).length = false) :
    s.poll c = s.failed .bufferOverflow := by
  rw [State.poll_body h, State.pollBody, if_neg (by rw [hfit]; decide), State.failAcquisition_eq_failed]

theorem State.poll_body_open (h : s.fstate = .body) (hfit : s.cfg.fits (s.tbuf ++ c).length = true)
    (hend : s.cfg.endMark ∉ s.tbuf ++ c) :
    s.poll c = if s.polls + 1 = s.cfg.n2 then s.failed .acquisitionTimeout
      else s.acquiring .body (s.polls + 1) (s.tbuf ++ c) s.bang := by
  rw [State.poll_body h, State.pollBody, if_pos hfit, State.advance_body_none rfl (findByte_eq_none.mpr hend)]
  exact State.endPoll_setFramer _ _ _

theorem State.poll_body_ended (h : s.fstate = .body) (hfit : s.cfg.fits (s.tbuf ++ c).length = true)
    (hend : findByte s.cfg.endMark (s.tbuf ++ c) = some j) : s.poll c = s.ended (s.tbuf ++ c) j := by
  obtain ⟨hleft, hreturns⟩ := State.advance_of_ended (n := s.polls + 1) hend s.bang
  rw [State.poll_body h, State.pollBody, if_pos hfit, State.endPoll_of_left hleft, hreturns]

/-- Settles O24: the buffer with the chunk at its end is searched for the end marker. -/
theorem pollInBody : Obligations.PollInBody := by
  intro c s hf
  simp only [exec_acqPoll]
  refine ⟨fun hfit => ?_, fun hfit hend => ⟨fun hn => ?_, fun hn => ?_⟩, fun j hfit hend => ⟨fun hl => ?_, fun hl => ?_⟩⟩
  · rw [State.poll_body_overflow hf hfit]
  · rw [State.poll_body_open hf hfit hend, if_neg hn]
  · rw [State.poll_body_open hf hfit hend, if_pos hn]
  · rw [State.poll_body_ended hf hfit hend, State.ended_of_short hl]
  · rw [State.poll_body_ended hf hfit hend, State.ended_of_whole hl]

/-! ### ACQ.POLL in TAIL (R155) -/

theorem State.poll_tail (h : s.fstate = .tail) (c : List Byte) : s.poll c = s.pollTail c := by
  simp only [State.poll, h]

theorem State.poll_tail_overflow (h : s.fstate = .tail) (hfit : s.cfg.fits (s.tbuf ++ c).length = false) :
    s.poll c = s.failed .bufferOverflow := by
  rw [State.poll_tail h, State.pollTail, if_neg (by rw [hfit]; decide), State.failAcquisition_eq_failed]

theorem State.poll_tail_short (h : s.fstate = .tail) (hbang : s.bang = some j)
    (hfit : s.cfg.fits (s.tbuf ++ c).length = true) (hl : (s.tbuf ++ c).length < j + 1 + s.cfg.csumDigits) :
    s.poll c = if s.polls + 1 = s.cfg.n3 then s.failed .acquisitionTimeout
      else s.acquiring .tail (s.polls + 1) (s.tbuf ++ c) (some j) := by
  rw [State.poll_tail h, State.pollTail, if_pos hfit,
    State.advance_tail_stay (s := s.setFramer .tail (s.polls + 1) (s.tbuf ++ c) s.bang) rfl hbang hl, hbang]
  exact State.endPoll_setFramer _ _ _

theorem State.poll_tail_whole (h : s.fstate = .tail) (hbang : s.bang = some j)
    (hfit : s.cfg.fits (s.tbuf ++ c).length = true) (hl : j + 1 + s.cfg.csumDigits ≤ (s.tbuf ++ c).length) :
    s.poll c = s.completed (s.tbuf ++ c) j := by
  rw [State.poll_tail h, State.pollTail, if_pos hfit, hbang, State.advance_tail_complete rfl rfl hl, State.complete_eq,
    State.endPoll_of_left (by simp), State.completed, State.traceGateDown_eq]
  rfl

/-- Settles O25: the end marker stays at `j`, and the buffer grows to the telegram's length. -/
theorem pollInTail : Obligations.PollInTail := by
  intro c s j hf hbang
  simp only [exec_acqPoll]
  refine ⟨fun hfit => ?_, fun hfit => ⟨fun hl => ⟨fun hn => ?_, fun hn => ?_⟩, fun hl => ?_⟩⟩
  · rw [State.poll_tail_overflow hf hfit]
  · rw [State.poll_tail_short hf hbang hfit hl, if_neg hn]
  · rw [State.poll_tail_short hf hbang hfit hl, if_pos hn]
  · rw [State.poll_tail_whole hf hbang hfit hl]

end Sys2Proof.Machine
end

section
/-! Whole acquisitions (41_framer.md R162 to R164): polls of the chunks one after the other end within the budgets, time out
in BODY without an end marker, and frame the same telegram whatever its division into chunks. -/

namespace Sys2Proof.Machine

/-! ### Polling chunk by chunk (R117) -/

variable {s : State} {c : List Byte} {cs : List (List Byte)}

theorem pollWhile_of_stopped (h : s.fstate.acquiring = false) (cs : List (List Byte)) : pollWhile cs s = .next s := by
  cases cs with
  | nil => rfl
  | cons c cs => rw [pollWhile, h, if_neg Bool.false_ne_true]

theorem pollWhile_cons (h : s.fstate.acquiring = true) : pollWhile (c :: cs) s = pollWhile cs (s.poll c) := by
  rw [pollWhile, if_pos h, exec_acqPoll]

@[simp] theorem State.started_cfg (s : State) : s.started.cfg = s.cfg := rfl

@[simp] theorem State.started_polls (s : State) : s.started.polls = 0 := rfl

theorem acquire_eq (cs : List (List Byte)) (s : State) : acquire cs s = pollWhile cs s.started := by
  rw [acquire, exec_acqStart_eq]

/-! ### Termination (R163) -/

/-- How many polls an acquisition can still take: what is left of the state's budget, and the budgets of the states after
it. -/
def State.pollsLeft (s : State) : Nat :=
  match s.fstate with
  | .scanning => s.cfg.n1 - s.polls + s.cfg.n2 + s.cfg.n3
  | .body => s.cfg.n2 - s.polls + s.cfg.n3
  | .tail => s.cfg.n3 - s.polls
  | .idle => 0
  | .complete => 0

/-- An acquisition in progress has a poll left. -/
theorem State.pollsLeft_pos (h : s.FramerOk) (ha : s.fstate.acquiring = true) : 0 < s.pollsLeft := by
  obtain ⟨_, hscan, hbody, htail, _⟩ := h
  unfold State.pollsLeft
  cases hf : s.fstate with
  | scanning =>
    have ⟨hlt, _⟩ := hscan hf
    simp only
    omega
  | body =>
    have ⟨hlt, _⟩ := hbody hf
    simp only
    omega
  | tail =>
    have ⟨hlt, _⟩ := htail hf
    simp only
    omega
  | idle | complete =>
    rw [hf] at ha
    cases ha

/-- Each poll of an acquisition takes one of the polls left. -/
theorem State.pollsLeft_poll_lt (h : s.Framing) (ha : s.fstate.acquiring = true) (c : List Byte) :
    (s.poll c).pollsLeft < s.pollsLeft := by
  obtain ⟨hframer, _⟩ := h
  have hpos := State.pollsLeft_pos hframer ha
  obtain ⟨_, hscan, hbody, htail, _⟩ := hframer
  rcases s.poll_cases c with ⟨hn, _⟩ | ⟨_, hp | hp⟩ | ⟨hf, _, hp⟩ |
    ⟨_, _, hf, _, _, _, ⟨_, hp⟩ | ⟨_, _, ⟨_, hp⟩ | ⟨_, hp⟩⟩⟩ |
    ⟨_, hf, _, _, ⟨_, _, hp⟩ | ⟨_, _, ⟨_, hp⟩ | ⟨_, hp⟩⟩⟩ | ⟨_, hf, _, _, ⟨_, _, hp⟩ | ⟨_, _, _, hp⟩⟩
  case inl => cases hn.symm.trans ha
  all_goals rw [hp]
  case inr.inl.inl | inr.inl.inr => exact hpos
  all_goals
    simp only [State.pollsLeft, State.acquiring, State.completed, hf]
    simp only [hf, true_implies] at hscan hbody htail
    omega

/-- Enough chunks end an acquisition. -/
theorem pollWhile_ends (hwf : s.cfg.WellFormed) (h : s.Framing) (hleft : s.pollsLeft ≤ cs.length) :
    ∃ t, pollWhile cs s = .next t ∧ t.fstate.acquiring = false := by
  induction cs generalizing s with
  | nil =>
    refine ⟨s, rfl, Bool.eq_false_iff.mpr fun ha => ?_⟩
    have := State.pollsLeft_poll_lt h ha []
    simp only [List.length_nil] at hleft
    omega
  | cons c cs ih =>
    cases ha : s.fstate.acquiring with
    | false => exact ⟨s, pollWhile_of_stopped ha _, ha⟩
    | true =>
      have hlt := State.pollsLeft_poll_lt h ha c
      have hcfg : (s.poll c).cfg = s.cfg := by rw [s.poll_frame c]
      rw [pollWhile_cons ha]
      refine ih (hcfg ▸ hwf) (h.poll hwf c) ?_
      simp only [List.length_cons] at hleft
      omega

theorem State.started_framing (hwf : s.cfg.WellFormed) : s.started.Framing :=
  have ⟨⟨hn1, _⟩, _⟩ := hwf
  State.framing_of_scanning rfl hn1 rfl rfl rfl

/-- Settles O28: right after ACQ.START the polls left are N1 + N2 + N3. -/
theorem acquisitionEndsWithinItsBudgets : Obligations.AcquisitionEndsWithinItsBudgets := by
  intro s cs hwf hlen
  obtain ⟨t, ht, hstop⟩ := pollWhile_ends (s := s.started) hwf (State.started_framing hwf) hlen.ge
  exact ⟨t, (acquire_eq cs s).trans ht, FState.acquiring_eq_false.mp hstop⟩

/-! ### Body timeout (R164) -/

/-- No chunk brings an end marker, and the buffer is large enough for them all. -/
structure State.NoEndIn (s : State) (cs : List (List Byte)) : Prop where
  body : s.fstate = .body
  buffer : s.cfg.endMark ∉ s.tbuf
  chunks : ∀ c ∈ cs, s.cfg.endMark ∉ c
  fits : s.cfg.fits (s.tbuf ++ cs.flatten).length = true

theorem State.NoEndIn.acquiring (h : s.NoEndIn cs) : s.fstate.acquiring = true := by rw [h.body]; rfl

theorem State.NoEndIn.notMem (h : s.NoEndIn (c :: cs)) : s.cfg.endMark ∉ s.tbuf ++ c := by
  simpa using ⟨h.buffer, h.chunks c List.mem_cons_self⟩

theorem State.NoEndIn.poll (h : s.NoEndIn (c :: cs)) :
    s.poll c = if s.polls + 1 = s.cfg.n2 then s.failed .acquisitionTimeout
      else s.acquiring .body (s.polls + 1) (s.tbuf ++ c) s.bang :=
  State.poll_body_open h.body (Config.fits_mono h.fits (by simp)) h.notMem

theorem State.NoEndIn.next (h : s.NoEndIn (c :: cs)) :
    (s.acquiring .body (s.polls + 1) (s.tbuf ++ c) s.bang).NoEndIn cs :=
  ⟨rfl, h.notMem, fun _ hc => h.chunks _ (List.mem_cons_of_mem _ hc), by
    have := h.fits
    rwa [List.flatten_cons, ← List.append_assoc] at this⟩

theorem State.NoEndIn.take (h : s.NoEndIn cs) (k : Nat) : s.NoEndIn (cs.take k) :=
  ⟨h.body, h.buffer, fun _ hc => h.chunks _ (List.mem_of_mem_take hc), Config.fits_mono h.fits <| by
    simpa using ((List.take_sublist k cs).flatten).length_le⟩

/-- Fewer chunks than are left of the budget leave the framer in BODY, and each counts as a poll. -/
theorem State.NoEndIn.stays (h : s.NoEndIn cs) (hn : s.polls + cs.length < s.cfg.n2) :
    ∃ u, pollWhile cs s = .next u ∧ u.fstate = .body ∧ u.polls = s.polls + cs.length := by
  induction cs generalizing s with
  | nil => exact ⟨s, rfl, h.body, rfl⟩
  | cons c cs ih =>
    rw [List.length_cons] at hn
    have hpoll := h.poll
    rw [if_neg (by omega)] at hpoll
    obtain ⟨u, hu, hbody, hpolls⟩ := ih h.next (show s.polls + 1 + cs.length < s.cfg.n2 by omega)
    refine ⟨u, by rw [pollWhile_cons h.acquiring, hpoll, hu], hbody, hpolls.trans ?_⟩
    show s.polls + 1 + cs.length = _
    rw [List.length_cons]
    omega

/-- As many chunks as are left of the budget spend it. -/
theorem State.NoEndIn.timesOut (h : s.NoEndIn cs) (hp : s.polls < s.cfg.n2) (hn : s.cfg.n2 ≤ s.polls + cs.length) :
    ∃ t : State, pollWhile cs s = .next (t.failed .acquisitionTimeout) := by
  induction cs generalizing s with
  | nil => exact absurd hn (Nat.not_le.mpr hp)
  | cons c cs ih =>
    rw [List.length_cons] at hn
    rw [pollWhile_cons h.acquiring, h.poll]
    split
    next => exact ⟨s, pollWhile_of_stopped rfl cs⟩
    next hne => exact ih h.next (show s.polls + 1 < s.cfg.n2 by omega) (show s.cfg.n2 ≤ s.polls + 1 + cs.length by omega)

/-- Settles O30: N2 chunks spend the budget, the first `k` of them do not. -/
theorem bodyWithoutEndMarkerTimesOut : Obligations.BodyWithoutEndMarkerTimesOut := by
  intro s cs hinv hf hpolls hlen hcs hfit
  obtain ⟨_, ⟨_, _, hbody, _⟩, _⟩ := hinv
  obtain ⟨hlt, _, _, hnone⟩ := hbody hf
  have h : s.NoEndIn cs := ⟨hf, findByte_eq_none.mp hnone, hcs, hfit⟩
  refine ⟨?_, fun k hk => ?_⟩
  · obtain ⟨t, ht⟩ := h.timesOut hlt (by omega)
    exact ⟨_, ht, rfl, rfl, rfl⟩
  · have hk' : s.polls + (cs.take k).length = k := by rw [List.length_take]; omega
    obtain ⟨u, hu, hub, hup⟩ := (h.take k).stays (by omega)
    exact ⟨u, hu, hub, hup.trans hk'⟩

/-! ### Which chunk brings a byte (R162) -/

/-- How many of the chunks to come bring the byte at place `n` of a stream of which `b` has come. -/
def chunksUntil (n : Nat) (b : List Byte) (cs : List (List Byte)) : Nat :=
  if n < b.length then 0 else chunkOf (n - b.length) cs

variable {n : Nat} {b : List Byte}

theorem chunksUntil_of_lt (h : n < b.length) (cs : List (List Byte)) : chunksUntil n b cs = 0 := if_pos h

theorem chunksUntil_cons (h : b.length ≤ n) (c : List Byte) (cs : List (List Byte)) :
    chunksUntil n b (c :: cs) = chunksUntil n (b ++ c) cs + 1 := by
  rw [chunksUntil, if_neg (Nat.not_lt.mpr h), chunkOf, chunksUntil, List.length_append, ← Nat.sub_sub]
  by_cases hlt : n - b.length < c.length
  · rw [if_pos hlt, if_pos (by omega)]
  · rw [if_neg hlt, if_neg (by omega)]

theorem chunksUntil_pos (h : b.length ≤ n) (cs : List (List Byte)) : 0 < chunksUntil n b cs := by
  rw [chunksUntil, if_neg (Nat.not_lt.mpr h)]
  cases cs with
  | nil => exact Nat.one_pos
  | cons c cs => rw [chunkOf]; split <;> omega

/-- A chunk that begins the stream with `b`, after bytes that are no part of it. -/
theorem chunkOf_opening (pre b : List Byte) (n : Nat) (cs : List (List Byte)) :
    chunkOf (pre.length + n) ((pre ++ b) :: cs) = chunksUntil n b cs + 1 := by
  rw [chunkOf, chunksUntil, List.length_append, Nat.add_sub_add_left]
  by_cases hlt : n < b.length
  · rw [if_pos hlt, if_pos (by omega)]
  · rw [if_neg hlt, if_neg (by omega)]

/-- A chunk before the stream begins. -/
theorem chunkOf_before (c pre : List Byte) (n : Nat) (cs : List (List Byte)) :
    chunkOf ((c ++ pre).length + n) (c :: cs) = chunkOf (pre.length + n) cs + 1 := by
  rw [chunkOf, List.length_append, if_neg (by omega), Nat.add_assoc, Nat.add_sub_cancel_left]

theorem chunkOf_pos (n : Nat) (cs : List (List Byte)) : 0 < chunkOf n cs := chunksUntil_pos (b := []) (Nat.zero_le n) cs

/-! ### Independence of chunking (R162) -/

/-- The stream `w` begins with a telegram whose end marker is at `j`, and the buffer is large enough for the stream. -/
structure OpensStream (k : Config) (w : List Byte) (j : Nat) : Prop where
  head : w.head? = some k.startMark
  found : findByte k.endMark w = some j
  whole : j + 1 + k.csumDigits ≤ w.length
  fits : k.fits w.length = true

/-- Polling `cs` frames the telegram `t` with the first `d` chunks if `inTime`, and else times out. -/
structure State.FramesIn (s : State) (cs : List (List Byte)) (t : List Byte) (d : Nat) (inTime : Prop) : Prop where
  framed : inTime → ∃ u, pollWhile (cs.take d) s = .next u ∧ u.fstate = .complete ∧ u.tbuf = t
  timedOut : ¬inTime → ∃ u, pollWhile cs s = .next u ∧ u.fstate = .idle ∧ u.ret = ⟨.acquisitionTimeout, .none⟩

variable {t : List Byte} {d : Nat} {p q : Prop}

theorem State.FramesIn.of_complete (hf : s.fstate = .complete) (ht : s.tbuf = t) (hp : p) : s.FramesIn cs t d p :=
  ⟨fun _ => ⟨s, pollWhile_of_stopped (by rw [hf]; rfl) _, hf, ht⟩, fun hn => absurd hp hn⟩

theorem State.framesIn_failed (hp : ¬p) : (s.failed .acquisitionTimeout).FramesIn cs t d p :=
  ⟨fun h => absurd h hp, fun _ => ⟨_, pollWhile_of_stopped rfl _, rfl, rfl⟩⟩

/-- One poll takes one chunk. -/
theorem State.FramesIn.cons {u : State} (ha : s.fstate.acquiring = true) (hpoll : s.poll c = u)
    (h : u.FramesIn cs t d p) (hpq : q ↔ p) : s.FramesIn (c :: cs) t (d + 1) q where
  framed hq := by
    rw [List.take_succ_cons, pollWhile_cons ha, hpoll]
    exact h.framed (hpq.mp hq)
  timedOut hq := by
    rw [pollWhile_cons ha, hpoll]
    exact h.timedOut fun hp => hq (hpq.mpr hp)

theorem State.FramesIn.congr (h : s.FramesIn cs t d p) (hpq : q ↔ p) : s.FramesIn cs t d q :=
  ⟨fun hq => h.framed (hpq.mp hq), fun hq => h.timedOut fun hp => hq (hpq.mpr hp)⟩

variable {w : List Byte} {j : Nat}

namespace OpensStream

variable {k : Config}

/-- What has come of the stream fits the buffer. -/
theorem fits_part (hw : OpensStream k w j) {l : List Byte} (h : b ++ l = w) : k.fits b.length = true :=
  Config.fits_mono hw.fits (by rw [← h, List.length_append]; omega)

/-- The end marker is found as soon as its place has come, and not before. -/
theorem find_part (hw : OpensStream k w j) {l : List Byte} (h : b ++ l = w) :
    if j < b.length then findByte k.endMark b = some j else k.endMark ∉ b := by
  have htake : b = w.take b.length := by rw [← h, List.take_left]
  split
  next hlt => rw [htake]; exact findByte_take hw.found hlt
  next hlt =>
    intro hmem
    rw [htake] at hmem
    exact (findByte_eq_some.mp hw.found).2 ((List.take_subset_take_left w (Nat.not_lt.mp hlt)) hmem)

end OpensStream

theorem State.completed_tbuf {l : List Byte} (h : b ++ l = w) (hl : j + 1 + s.cfg.csumDigits ≤ b.length) :
    (s.completed b j).tbuf = w.take (j + 1 + s.cfg.csumDigits) := by
  rw [← h, List.take_append_of_le_length hl]
  rfl

/-- In TAIL the telegram is whole with its last byte, and there are `n3` polls for it. -/
theorem State.framesIn_tail (hw : OpensStream s.cfg w j) (hf : s.fstate = .tail) (hbang : s.bang = some j)
    (hstream : s.tbuf ++ cs.flatten = w) (hshort : s.tbuf.length < j + 1 + s.cfg.csumDigits)
    (hpolls : s.polls < s.cfg.n3) :
    s.FramesIn cs (w.take (j + 1 + s.cfg.csumDigits)) (chunksUntil (j + s.cfg.csumDigits) s.tbuf cs)
      (s.polls + chunksUntil (j + s.cfg.csumDigits) s.tbuf cs ≤ s.cfg.n3) := by
  induction cs generalizing s with
  | nil =>
    have hlen := hw.whole
    rw [← hstream, List.flatten_nil, List.append_nil] at hlen
    omega
  | cons c cs ih =>
    have ha : s.fstate.acquiring = true := by rw [hf]; rfl
    have hstream' : (s.tbuf ++ c) ++ cs.flatten = w := by rw [List.append_assoc, ← List.flatten_cons, hstream]
    have hfit := hw.fits_part hstream'
    rw [chunksUntil_cons (by omega)]
    by_cases hl : j + 1 + s.cfg.csumDigits ≤ (s.tbuf ++ c).length
    · refine .cons ha (State.poll_tail_whole hf hbang hfit hl) (.of_complete rfl (State.completed_tbuf hstream' hl) trivial) ?_
      rw [chunksUntil_of_lt (by omega)]
      exact iff_true_intro hpolls
    · have hpoll := State.poll_tail_short hf hbang hfit (Nat.not_le.mp hl)
      have hpos := chunksUntil_pos (n := j + s.cfg.csumDigits) (b := s.tbuf ++ c) (by omega) cs
      by_cases hn : s.polls + 1 = s.cfg.n3
      · rw [if_pos hn] at hpoll
        exact .cons ha hpoll (State.framesIn_failed not_false) (iff_false_intro (by omega))
      · rw [if_neg hn] at hpoll
        refine .cons ha hpoll (ih hw rfl rfl hstream' (Nat.not_le.mp hl) (show s.polls + 1 < s.cfg.n3 by omega)) ?_
        show _ ↔ s.polls + 1 + chunksUntil (j + s.cfg.csumDigits) (s.tbuf ++ c) cs ≤ s.cfg.n3
        omega

/-- Once the end marker has come, the rest of the telegram has `n3` polls. -/
theorem State.framesIn_ended (hw : OpensStream s.cfg w j) (hn3 : 1 ≤ s.cfg.n3) (hstream : b ++ cs.flatten = w) :
    (s.ended b j).FramesIn cs (w.take (j + 1 + s.cfg.csumDigits)) (chunksUntil (j + s.cfg.csumDigits) b cs)
      (chunksUntil (j + s.cfg.csumDigits) b cs ≤ s.cfg.n3) := by
  by_cases hl : j + 1 + s.cfg.csumDigits ≤ b.length
  · rw [State.ended_of_whole hl, chunksUntil_of_lt (by omega)]
    exact .of_complete rfl (State.completed_tbuf hstream hl) (Nat.zero_le _)
  · have hl := Nat.not_le.mp hl
    rw [State.ended_of_short hl]
    have h := State.framesIn_tail (s := s.acquiring .tail 0 b (some j)) hw rfl rfl hstream hl hn3
    rwa [show (s.acquiring .tail 0 b (some j)).polls = 0 from rfl, Nat.zero_add] at h

/-- In BODY there are `n2` polls for the end marker, and then `n3` for the rest. -/
theorem State.framesIn_body (hw : OpensStream s.cfg w j) (hn3 : 1 ≤ s.cfg.n3) (hf : s.fstate = .body)
    (hstream : s.tbuf ++ cs.flatten = w) (hj : s.tbuf.length ≤ j) (hpolls : s.polls < s.cfg.n2) :
    s.FramesIn cs (w.take (j + 1 + s.cfg.csumDigits)) (chunksUntil (j + s.cfg.csumDigits) s.tbuf cs)
      (s.polls + chunksUntil j s.tbuf cs ≤ s.cfg.n2 ∧
        chunksUntil (j + s.cfg.csumDigits) s.tbuf cs - chunksUntil j s.tbuf cs ≤ s.cfg.n3) := by
  induction cs generalizing s with
  | nil =>
    have hlen := hw.whole
    rw [← hstream, List.flatten_nil, List.append_nil] at hlen
    omega
  | cons c cs ih =>
    have ha : s.fstate.acquiring = true := by rw [hf]; rfl
    have hstream' : (s.tbuf ++ c) ++ cs.flatten = w := by rw [List.append_assoc, ← List.flatten_cons, hstream]
    have hfit := hw.fits_part hstream'
    have hfind := hw.find_part hstream'
    rw [chunksUntil_cons hj, chunksUntil_cons (by omega)]
    by_cases hl : j < (s.tbuf ++ c).length
    · rw [if_pos hl] at hfind
      refine .cons ha (State.poll_body_ended hf hfit hfind) (State.framesIn_ended hw hn3 hstream') ?_
      rw [chunksUntil_of_lt hl]
      omega
    · rw [if_neg hl] at hfind
      have hpoll := State.poll_body_open hf hfit hfind
      have hpos := chunksUntil_pos (Nat.not_lt.mp hl) cs
      by_cases hn : s.polls + 1 = s.cfg.n2
      · rw [if_pos hn] at hpoll
        exact .cons ha hpoll (State.framesIn_failed not_false) (iff_false_intro (by omega))
      · rw [if_neg hn] at hpoll
        refine .cons ha hpoll (ih hw hn3 rfl hstream' (Nat.not_lt.mp hl) (show s.polls + 1 < s.cfg.n2 by omega)) ?_
        show _ ↔ s.polls + 1 + chunksUntil j (s.tbuf ++ c) cs ≤ s.cfg.n2 ∧
          chunksUntil (j + s.cfg.csumDigits) (s.tbuf ++ c) cs - chunksUntil j (s.tbuf ++ c) cs ≤ s.cfg.n3
        omega

/-- A first chunk ends before the stream `w` begins, or brings its first byte. -/
theorem append_eq_append_split {l pre : List Byte} (h : c ++ l = pre ++ w) :
    (∃ pre', pre = c ++ pre' ∧ l = pre' ++ w) ∨ ∃ x b, c = pre ++ x :: b ∧ w = x :: b ++ l := by
  rcases List.append_eq_append_iff.mp h with ⟨pre', hpre, hl⟩ | ⟨b, hc, hw⟩
  · exact .inl ⟨pre', hpre, hl⟩
  · cases b with
    | nil => exact .inl ⟨[], by simpa using hc.symm, by simpa using hw.symm⟩
    | cons x b => exact .inr ⟨x, b, hc, hw⟩

/-- The chunk that brings the start marker begins the buffer, and the framer leaves SCANNING. -/
theorem State.framesIn_opening {pre : List Byte} (hw : OpensStream s.cfg w j) (hn2 : 1 ≤ s.cfg.n2) (hn3 : 1 ≤ s.cfg.n3)
    (hf : s.fstate = .scanning) (hpre : s.cfg.startMark ∉ pre) (hb : b.head? = some s.cfg.startMark)
    (hstream : b ++ cs.flatten = w) :
    s.FramesIn ((pre ++ b) :: cs) (w.take (j + 1 + s.cfg.csumDigits)) (chunksUntil (j + s.cfg.csumDigits) b cs + 1)
      (chunksUntil j b cs ≤ s.cfg.n2 ∧ chunksUntil (j + s.cfg.csumDigits) b cs - chunksUntil j b cs ≤ s.cfg.n3) := by
  have ha : s.fstate.acquiring = true := by rw [hf]; rfl
  have hstart : findByte s.cfg.startMark (pre ++ b) = some pre.length := by
    obtain ⟨b', rfl⟩ := List.head?_eq_some_iff.mp hb
    exact findByte_append_cons hpre b'
  have hdrop : (pre ++ b).drop pre.length = b := List.drop_left
  have hfit : s.cfg.fits ((pre ++ b).drop pre.length).length = true := by rw [hdrop]; exact hw.fits_part hstream
  have hfind := hw.find_part hstream
  by_cases hl : j < b.length
  · rw [if_pos hl] at hfind
    have hpoll := State.poll_scanning_ended hf hstart hfit (by rwa [hdrop])
    rw [hdrop] at hpoll
    refine .cons ha hpoll (State.framesIn_ended hw hn3 hstream) ?_
    rw [chunksUntil_of_lt hl]
    omega
  · rw [if_neg hl] at hfind
    have hpoll := State.poll_scanning_started hf hstart hfit (by rwa [hdrop])
    rw [hdrop] at hpoll
    refine .cons ha hpoll (State.framesIn_body hw hn3 rfl hstream (Nat.not_lt.mp hl) hn2) ?_
    show _ ↔ 0 + chunksUntil j b cs ≤ s.cfg.n2 ∧ _
    rw [Nat.zero_add]
    rfl

/-- In SCANNING there are `n1` polls for the start marker, then `n2` for the end marker, then `n3` for the rest. -/
theorem State.framesIn_scanning {pre : List Byte} (hw : OpensStream s.cfg w j) (hn2 : 1 ≤ s.cfg.n2) (hn3 : 1 ≤ s.cfg.n3)
    (hf : s.fstate = .scanning) (hpre : s.cfg.startMark ∉ pre) (hstream : cs.flatten = pre ++ w)
    (hpolls : s.polls < s.cfg.n1) :
    s.FramesIn cs (w.take (j + 1 + s.cfg.csumDigits)) (chunkOf (pre.length + (j + s.cfg.csumDigits)) cs)
      (s.polls + chunkOf (pre.length + 0) cs ≤ s.cfg.n1 ∧
        chunkOf (pre.length + j) cs - chunkOf (pre.length + 0) cs ≤ s.cfg.n2 ∧
        chunkOf (pre.length + (j + s.cfg.csumDigits)) cs - chunkOf (pre.length + j) cs ≤ s.cfg.n3) := by
  induction cs generalizing s pre with
  | nil =>
    have hlen := hw.whole
    rw [(List.append_eq_nil_iff.mp hstream.symm).2, List.length_nil] at hlen
    omega
  | cons c cs ih =>
    have ha : s.fstate.acquiring = true := by rw [hf]; rfl
    rcases append_eq_append_split (List.flatten_cons.symm.trans hstream) with ⟨pre', rfl, hl⟩ | ⟨x, b, rfl, hb⟩
    case inl =>
      rw [List.mem_append, not_or] at hpre
      obtain ⟨hc, hpre'⟩ := hpre
      simp only [chunkOf_before]
      have hpoll := State.poll_scanning_missed hf hc
      have hpos := chunkOf_pos (pre'.length + 0) cs
      by_cases hn : s.polls + 1 = s.cfg.n1
      · rw [if_pos hn] at hpoll
        exact .cons ha hpoll (State.framesIn_failed not_false) (iff_false_intro (by omega))
      · rw [if_neg hn] at hpoll
        refine .cons ha hpoll (ih hw hn2 hn3 rfl hpre' hl (show s.polls + 1 < s.cfg.n1 by omega)) ?_
        show _ ↔ s.polls + 1 + chunkOf (pre'.length + 0) cs ≤ s.cfg.n1 ∧
          chunkOf (pre'.length + j) cs - chunkOf (pre'.length + 0) cs ≤ s.cfg.n2 ∧
          chunkOf (pre'.length + (j + s.cfg.csumDigits)) cs - chunkOf (pre'.length + j) cs ≤ s.cfg.n3
        omega
    case inr =>
      have hhead : (x :: b).head? = some s.cfg.startMark := by rw [← hw.head, hb]; rfl
      simp only [chunkOf_opening, chunksUntil_of_lt (n := 0) (b := x :: b) (Nat.succ_pos _)]
      exact (State.framesIn_opening hw hn2 hn3 hf hpre hhead hb.symm).congr (by omega)

/-- A stream that begins with a telegram (R93). -/
theorem opensStream_telegram {k : Config} {body digits post : List Byte} (hmarks : k.startMark ≠ k.endMark)
    (hbody : k.endMark ∉ body) (hdigits : digits.length = k.csumDigits)
    (hfit : k.fits (telegramBytes k body digits ++ post).length = true) :
    OpensStream k (telegramBytes k body digits ++ post) (1 + body.length) where
  head := rfl
  found := by
    rw [Nat.add_comm]
    exact findByte_append (findByte_endMark_telegramBytes hmarks hbody) post
  whole := by
    rw [List.length_append, telegramBytes_length]
    omega
  fits := hfit

/-- Settles O31: the three budgets of the three states, each counted from the chunk that led into the state. -/
theorem chunkingDoesNotMatter : Obligations.ChunkingDoesNotMatter := by
  intro s cs pre body digits post hwf hpre hbody hdigits hstream hfit a b d
  obtain ⟨⟨hn1, hn2, hn3⟩, _, hmarks, _⟩ := hwf
  have hw := opensStream_telegram hmarks hbody hdigits hfit
  have htake : (telegramBytes s.cfg body digits ++ post).take (1 + body.length + 1 + digits.length)
      = telegramBytes s.cfg body digits :=
    List.take_left' (by rw [telegramBytes_length]; omega)
  have h := State.framesIn_scanning (s := s.started) hw hn2 hn3 rfl hpre hstream hn1
  simp only [State.started_cfg, State.started_polls, ← hdigits, htake, Nat.zero_add, Nat.add_zero] at h
  simp only [acquire_eq]
  exact ⟨h.framed, h.timedOut⟩

end Sys2Proof.Machine
end

section
/-! Telegram validation (42_validate.md R180 to R185): the checksum field as a number, TVERIFY, and what a cycle that fails
leaves as it was. -/

namespace Sys2Proof

/-! ### Hex digits and the checksum field (R95, R96, R184) -/

theorem hexVal_lt {b : Byte} {d : Nat} (h : hexVal b = some d) : d < 16 := by
  unfold hexVal at h
  split_ifs at h
  all_goals
    cases h
    omega

/-- The digit of a number below 16 is read back as that number. -/
theorem hexVal_hexDigit {n : Nat} (h : n < 16) : hexVal (hexDigit n) = some n := by
  have hall : ∀ n < 16, hexVal (hexDigit n) = some n := by decide
  exact hall n h

/-- Four bytes are a checksum field exactly when each is a hex digit; four digits fit the 16 bits of the number. -/
theorem hexField_eq_some {h0 h1 h2 h3 : Byte} {v : Half} :
    hexField [h0, h1, h2, h3] = some v ↔
      ∃ d0 d1 d2 d3, hexVal h0 = some d0 ∧ hexVal h1 = some d1 ∧ hexVal h2 = some d2 ∧ hexVal h3 = some d3 ∧
        v.toNat = 4096 * d0 + 256 * d1 + 16 * d2 + d3 := by
  constructor
  · intro h
    simp only [hexField] at h
    split at h
    next d0 d1 d2 d3 e0 e1 e2 e3 =>
      cases h
      have := hexVal_lt e0
      have := hexVal_lt e1
      have := hexVal_lt e2
      have := hexVal_lt e3
      exact ⟨d0, d1, d2, d3, e0, e1, e2, e3, Nat.mod_eq_of_lt (by omega)⟩
    next => cases h
  · rintro ⟨d0, d1, d2, d3, e0, e1, e2, e3, hv⟩
    simp only [hexField, e0, e1, e2, e3, ← hv, BitVec.ofNat_toNat, BitVec.setWidth_eq]

theorem hexField_hex4 (v : Half) : hexField (hex4 v) = some v := by
  refine hexField_eq_some.mpr ⟨_, _, _, _, hexVal_hexDigit (BitVec.isLt _), hexVal_hexDigit (BitVec.isLt _),
    hexVal_hexDigit (BitVec.isLt _), hexVal_hexDigit (BitVec.isLt _), ?_⟩
  have := v.isLt
  simp only [BitVec.extractLsb'_toNat, Nat.shiftRight_eq_div_pow]
  omega

end Sys2Proof

namespace Sys2Proof.Machine

/-! ### `valid` (R180, R181, R184) -/

/-- A telegram of four bytes or more, by its last four and the bytes before them. -/
theorem valid_append {p field : List Byte} (hlen : field.length = 4) :
    valid (p ++ field) = true ↔ hexField field = some (crc16 p) := by
  have hp : (p ++ field).length - 4 = p.length := by rw [List.length_append, hlen, Nat.add_sub_cancel]
  simp only [valid, csumField, hp, List.drop_left, List.take_left]
  cases hexField field <;> simp

/-- Settles O35. -/
theorem validMeansFieldIsChecksum : Obligations.ValidMeansFieldIsChecksum :=
  fun _ _ _ _ _ => (valid_append rfl).trans hexField_eq_some

/-- Settles O21: `hex4` writes the digits that the checksum field is read from. -/
theorem telegramWithItsOwnChecksumValidates : Obligations.TelegramWithItsOwnChecksumValidates :=
  fun p => (valid_append rfl).mpr (hexField_hex4 (crc16 p))

/-! ### TVERIFY (R182) -/

variable {s t : State}

theorem exec_tverify_valid (hf : s.fstate = .complete) (hv : valid s.tbuf = true) :
    exec .tverify s = .next (s.returns .none) := congrArg Host.Outcome.next ((if_pos hf).trans (if_pos hv))

theorem exec_tverify_mismatch (hf : s.fstate = .complete) (hv : valid s.tbuf = false) :
    exec .tverify s = .next (s.toIdle.raise .checksumMismatch) :=
  congrArg Host.Outcome.next ((if_pos hf).trans (if_neg (Bool.eq_false_iff.mp hv)))

theorem exec_tverify_refused (hf : s.fstate ≠ .complete) : exec .tverify s = .next s.illegal :=
  congrArg Host.Outcome.next (if_neg hf)

/-- Settles O33. -/
theorem tverifyKeepsOrDiscards : Obligations.TverifyKeepsOrDiscards :=
  fun _ => ⟨exec_tverify_valid, exec_tverify_mismatch, exec_tverify_refused⟩

/-! ### A failed cycle (R36, R185, R305) -/

/-- `t` differs from `s` in nothing that is reported, and no frame was sent on the way from `s` to `t`. -/
structure State.SilentTo (s t : State) : Prop where
  store : t.store = s.store
  dirty : t.dirty = s.dirty
  seq : t.seq = s.seq
  firstRun : t.firstRun = s.firstRun
  sent : ∀ tx a, OutEvent.transmit tx a ∈ t.trace → OutEvent.transmit tx a ∈ s.trace

theorem State.SilentTo.refl (s : State) : s.SilentTo s := ⟨rfl, rfl, rfl, rfl, fun _ _ h => h⟩

theorem State.SilentTo.trans {u : State} (h : s.SilentTo t) (h' : t.SilentTo u) : s.SilentTo u where
  store := h'.store.trans h.store
  dirty := h'.dirty.trans h.dirty
  seq := h'.seq.trans h.seq
  firstRun := h'.firstRun.trans h.firstRun
  sent := fun tx a hu => h.sent tx a (h'.sent tx a hu)

theorem State.started_silent (s : State) : s.SilentTo s.started where
  store := rfl
  dirty := rfl
  seq := rfl
  firstRun := rfl
  sent := fun tx a h => by
    simp only [State.started] at h
    split at h
    next => exact h
    next => simpa using h

/-- The calls of `set_ready` are no transmits. -/
theorem State.transmit_mem_traceGateDown {tx : TxEnvelope} {a : Bool} (h : .transmit tx a ∈ s.traceGateDown) :
    .transmit tx a ∈ s.trace := by
  unfold State.traceGateDown at h
  split at h
  next => simpa using h
  next => exact h

/-- A poll leaves the trace, or brings the gate down. -/
theorem State.poll_trace (s : State) (c : List Byte) : (s.poll c).trace = s.trace ∨ (s.poll c).trace = s.traceGateDown := by
  rcases s.poll_cases c with ⟨_, h⟩ | ⟨_, h | h⟩ | ⟨_, _, h⟩ | ⟨_, _, _, _, _, _, ⟨_, h⟩ | ⟨_, _, ⟨_, h⟩ | ⟨_, h⟩⟩⟩ |
    ⟨_, _, _, _, ⟨_, _, h⟩ | ⟨_, _, ⟨_, h⟩ | ⟨_, h⟩⟩⟩ | ⟨_, _, _, _, ⟨_, _, h⟩ | ⟨_, _, _, h⟩⟩ <;> rw [h]
  all_goals simp [State.illegal, State.failed, State.acquiring, State.completed]

theorem State.poll_silent (s : State) (c : List Byte) : s.SilentTo (s.poll c) where
  store := by rw [s.poll_frame c]
  dirty := by rw [s.poll_frame c]
  seq := by rw [s.poll_frame c]
  firstRun := by rw [s.poll_frame c]
  sent := fun tx a h => by
    rcases s.poll_trace c with htr | htr <;> rw [htr] at h
    · exact h
    · exact State.transmit_mem_traceGateDown h

theorem pollWhile_silent {cs : List (List Byte)} (h : pollWhile cs s = .next t) : s.SilentTo t := by
  induction cs generalizing s with
  | nil =>
    cases h
    exact .refl _
  | cons c cs ih =>
    cases ha : s.fstate.acquiring with
    | false =>
      rw [pollWhile_of_stopped ha] at h
      cases h
      exact .refl _
    | true =>
      rw [pollWhile_cons ha] at h
      exact (s.poll_silent c).trans (ih h)

theorem acquire_silent {cs : List (List Byte)} (h : acquire cs s = .next t) : s.SilentTo t :=
  s.started_silent.trans (pollWhile_silent (acquire_eq cs s ▸ h))

/-- The telegram held is discarded; what is reported stays (R185). -/
theorem State.mismatch_silent (s : State) : s.SilentTo (s.toIdle.raise .checksumMismatch) :=
  ⟨rfl, rfl, rfl, rfl, fun _ _ h => h⟩

theorem cycle_of_unframed {chunks : List (List Byte)} {parser : List Instr} (ha : acquire chunks s = .next t)
    (hf : t.fstate ≠ .complete) : cycle chunks parser s = .next t := by
  simp only [cycle, ha, if_neg hf]

theorem cycle_of_mismatch {chunks : List (List Byte)} {parser : List Instr} (ha : acquire chunks s = .next t)
    (hf : t.fstate = .complete) (hv : valid t.tbuf = false) :
    cycle chunks parser s = .next (t.toIdle.raise .checksumMismatch) := by
  have hstatus : (t.toIdle.raise .checksumMismatch).ret.status ≠ .ok := Status.noConfusion
  simp only [cycle, ha, if_pos hf, exec_tverify_mismatch hf hv, if_neg hstatus]

/-- Settles O36: the cycle ends with the acquisition or with TVERIFY, and up to there nothing reported is written. -/
theorem failedCycleLeavesTheStoreAlone : Obligations.FailedCycleLeavesTheStoreAlone := by
  intro s t chunks parser ha hfail
  have hacq := acquire_silent ha
  by_cases hf : t.fstate = .complete
  case neg =>
    exact ⟨t, cycle_of_unframed ha hf, hacq.store, hacq.dirty, hacq.seq, hacq.firstRun, hf, hacq.sent⟩
  case pos =>
    have hv := hfail.resolve_left (not_not.mpr hf)
    have hend := hacq.trans t.mismatch_silent
    exact ⟨_, cycle_of_mismatch ha hf hv, hend.store, hend.dirty, hend.seq, hend.firstRun, FState.noConfusion, hend.sent⟩

end Sys2Proof.Machine
end

section
/-! The store's operations (43_attribute_store.md R191 to R198): what ATTR.WR, ATTR.TOUCH, ATTR.RD and DIRTY.CLR
leave of an admitted key or endpoint, and what they refuse. -/

namespace Sys2Proof.Machine

variable {s : State} {k : Key} {r : AttrRow} {ep : Byte} {force : Bool} {v : List Byte}

/-! ### The policy and its marks (R191, R193, R196, R198) -/

theorem State.publishes_eq_true :
    s.publishes force = true ↔ s.firstRun = true ∨ s.alwaysPublish = true ∨ force = true := by
  simp [State.publishes, or_assoc]

theorem State.changed_eq_true (hr : s.cfg.row k = some r) : s.changed r v = true ↔ s.value k ≠ some v := by
  rw [State.value_of_row hr, State.changed, bne_iff_ne]

/-- ATTR.WR of a row marks: the value changed, or the policy says so (R191). -/
def State.writeMarks (s : State) (r : AttrRow) (force : Bool) (v : List Byte) : Bool := s.changed r v || s.publishes force

theorem State.writeMarks_eq_true (hr : s.cfg.row k = some r) :
    s.writeMarks r force v = true ↔
      s.value k ≠ some v ∨ s.firstRun = true ∨ s.alwaysPublish = true ∨ force = true := by
  rw [State.writeMarks, Bool.or_eq_true, State.changed_eq_true hr, State.publishes_eq_true]

/-- `mark(k)` where the policy says so (R198). -/
def State.markIf (s : State) (d : Bool) (k : Key) : State := if d then s.mark k else s

theorem State.markIf_eq (s : State) (d : Bool) (k : Key) : s.markIf d k = { s with dirty := (s.markIf d k).dirty } := by
  cases d
  · rfl
  · exact s.mark_eq k

theorem State.dirtyOf_markIf_self (hs : Sparse.Sorted s.dirty) (d : Bool) (k : Key) :
    (s.markIf d k).dirtyOf k.ep
      = if d = true ∧ k ∉ s.dirtyOf k.ep then s.dirtyOf k.ep ++ [k] else s.dirtyOf k.ep := by
  cases d
  · simp [State.markIf]
  · by_cases hk : k ∈ s.dirtyOf k.ep <;> simp [State.markIf, State.dirtyOf_mark_self hs, hk]

theorem State.dirtyOf_markIf_other (d : Bool) (h : ep ≠ k.ep) : (s.markIf d k).dirtyOf ep = s.dirtyOf ep := by
  cases d
  · rfl
  · exact s.dirtyOf_mark_other h

/-! ### What each operation does where it is admitted -/

theorem exec_attrWr (hr : s.cfg.row k = some r) (hv : s.cfg.valueWf r.tag v = true) :
    exec (.attrWr k force v) s = .next (s.writeRow r force v) := by
  show execAttrWr k force v s = _
  simp only [execAttrWr, hr, if_pos hv]

theorem exec_attrTouch (hr : s.cfg.row k = some r) :
    exec (.attrTouch k force) s
      = .next ((s.markIf (s.publishes force) k).returns (.marked (s.publishes force))) := by
  show execAttrTouch k force s = _
  simp only [execAttrTouch, hr, Config.row_key hr]
  cases s.publishes force <;> rfl

theorem exec_attrRd (hr : s.cfg.row k = some r) : exec (.attrRd k) s = .next (s.returns (.attr r.tag (s.value k))) := by
  show execAttrRd k s = _
  simp only [execAttrRd, hr, State.value_of_row hr]

theorem exec_attrRd_unknown (hr : s.cfg.row k = none) : exec (.attrRd k) s = .next (s.returns .absent) := by
  show execAttrRd k s = _
  simp only [execAttrRd, hr]

theorem exec_dirtyClr (h : s.cfg.hasEndpoint ep = true) :
    exec (.dirtyClr ep) s = .next ((s.setDirtyOf ep []).returns .none) := congrArg Host.Outcome.next (if_pos h)

/-! ### What they refuse (R192) -/

theorem exec_attrWr_unknown (hr : s.cfg.row k = none) : exec (.attrWr k force v) s = .next s.illegal := by
  show execAttrWr k force v s = _
  simp only [execAttrWr, hr]
  rfl

theorem exec_attrWr_illFormed (hr : s.cfg.row k = some r) (hv : s.cfg.valueWf r.tag v = false) :
    exec (.attrWr k force v) s = .next s.illegal := by
  show execAttrWr k force v s = _
  simp only [execAttrWr, hr, hv]
  rfl

theorem exec_attrTouch_unknown (hr : s.cfg.row k = none) : exec (.attrTouch k force) s = .next s.illegal := by
  show execAttrTouch k force s = _
  simp only [execAttrTouch, hr]
  rfl

theorem exec_dirtyClr_unknown (h : s.cfg.hasEndpoint ep = false) : exec (.dirtyClr ep) s = .next s.illegal :=
  congrArg Host.Outcome.next (if_neg (Bool.eq_false_iff.mp h))

theorem exec_report_unknown (h : s.cfg.hasEndpoint ep = false) : exec (.report ep) s = .next s.illegal :=
  congrArg Host.Outcome.next (if_neg (Bool.eq_false_iff.mp h))

/-! ### ATTR.WR of a row (R191, R198) -/

theorem State.writeRow_marked (hd : s.writeMarks r force v = true) :
    s.writeRow r force v = ((s.mark r.key).writeValue r v).returns (.marked true) := if_pos hd

theorem State.writeRow_unmarked (hd : s.writeMarks r force v = false) :
    s.writeRow r force v = s.returns (.marked false) := if_neg (Bool.eq_false_iff.mp hd)

theorem State.writeRow_ret (s : State) (r : AttrRow) (force : Bool) (v : List Byte) :
    (s.writeRow r force v).ret = ⟨.ok, .marked (s.writeMarks r force v)⟩ := by
  cases hd : s.writeMarks r force v
  · rw [State.writeRow_unmarked hd]
    rfl
  · rw [State.writeRow_marked hd]
    rfl

theorem State.writeRow_dirty_eq (hr : s.cfg.row k = some r) :
    (s.writeRow r force v).dirty = (s.markIf (s.writeMarks r force v) k).dirty := by
  cases hd : s.writeMarks r force v
  · rw [State.writeRow_unmarked hd]
    rfl
  · rw [State.writeRow_marked hd, Config.row_key hr]
    rfl

theorem State.dirtyOf_congr {t : State} (h : t.dirty = s.dirty) (ep : Byte) : t.dirtyOf ep = s.dirtyOf ep := by
  rw [State.dirtyOf, State.dirtyOf, h]

theorem State.value_mark (s : State) (k k' : Key) : (s.mark k).value k' = s.value k' := by
  rw [State.mark_eq]
  rfl

/-- The value is stored; where the write does not mark, it was there before. -/
theorem State.value_writeRow_self (hs : Sparse.Sorted s.store) (hr : s.cfg.row k = some r) :
    (s.writeRow r force v).value k = some v := by
  cases hd : s.writeMarks r force v
  case true =>
    have hmark := s.mark_eq r.key
    have hs' : Sparse.Sorted (s.mark r.key).store := by rwa [hmark]
    have hr' : (s.mark r.key).cfg.row k = some r := by rwa [hmark]
    rw [State.writeRow_marked hd]
    exact State.value_writeValue_self hs' hr' v
  case false =>
    have hsame : s.value k = some v := by
      by_contra hne
      exact Bool.false_ne_true (hd.symm.trans ((State.writeMarks_eq_true hr).mpr (.inl hne)))
    rw [State.writeRow_unmarked hd]
    exact hsame

theorem State.value_writeRow_other (hr : s.cfg.row k = some r) {k' : Key} (hk : k' ≠ k) :
    (s.writeRow r force v).value k' = s.value k' := by
  cases hd : s.writeMarks r force v
  case true =>
    have hr' : (s.mark r.key).cfg.row k = some r := by rwa [s.mark_eq r.key]
    rw [State.writeRow_marked hd]
    exact (State.value_writeValue_other hr' hk v).trans (s.value_mark r.key k')
  case false =>
    rw [State.writeRow_unmarked hd]
    rfl

/-- A number that fits its tag is handed over as the ATTR.WR of its `le_N` (R104). -/
theorem numericWrite_eq {c : Config} {n x : Nat} (hr : c.row k = some r) (hw : c.width r.tag = .fixed n)
    (hx : x < 256 ^ n) : numericWrite c k force x = some (.attrWr k force (leN n x)) := by
  simp only [numericWrite, hr, Config.numericValue_eq_some.mpr ⟨n, hw, hx, rfl⟩, Option.map_some]

/-! ### The statements -/

/-- Settles O37. -/
theorem attrWrMarksAndStores : Obligations.AttrWrMarksAndStores := by
  intro k force v s r hr hstore hdirty
  refine ⟨fun n x hw hx => ?_, fun hv => ?_⟩
  case refine_1 =>
    have hv : s.cfg.valueWf r.tag (leN n x) = true :=
      Config.valueWf_of_numericValue (Config.numericValue_eq_some.mpr ⟨n, hw, hx, rfl⟩)
    refine ⟨numericWrite_eq hr hw hx, hv, _, exec_attrWr hr hv, s.writeRow_status r force _, ?_⟩
    rw [State.value_writeRow_self hstore hr, Option.map_some, fromLe_leN n x hx]
  case refine_2 =>
    have hd := State.dirtyOf_congr (State.writeRow_dirty_eq (force := force) (v := v) hr)
    have hunset : s.value k = none → s.value k ≠ some v := fun h => by simp [h]
    exact ⟨_, s.writeMarks r force v, exec_attrWr hr hv,
      (State.writeMarks_eq_true hr).trans (or_iff_right_of_imp fun h => .inl (hunset h)).symm,
      s.writeRow_ret r force v, State.value_writeRow_self hstore hr, fun k' hk => State.value_writeRow_other hr hk,
      (hd k.ep).trans (State.dirtyOf_markIf_self hdirty _ k), fun ep hep => (hd ep).trans (State.dirtyOf_markIf_other _ hep),
      s.writeRow_frame r force v⟩

/-- Settles O38. -/
theorem attrTouchMarksOnly : Obligations.AttrTouchMarksOnly := by
  intro k force s r hr hdirty
  refine ⟨_, s.publishes force, exec_attrTouch hr, State.publishes_eq_true, rfl, State.dirtyOf_markIf_self hdirty _ k,
    fun ep hep => State.dirtyOf_markIf_other _ hep, ?_⟩
  rw [State.markIf_eq]
  rfl

/-- Settles O39. -/
theorem attrRdReturnsTagAndValue : Obligations.AttrRdReturnsTagAndValue :=
  fun _ _ => ⟨fun _ => exec_attrRd, exec_attrRd_unknown⟩

/-- Settles O40. -/
theorem dirtyClrEmptiesOneSet : Obligations.DirtyClrEmptiesOneSet :=
  fun ep _ hep hdirty => ⟨_, exec_dirtyClr hep, State.dirtyOf_setDirtyOf_self hdirty ep [],
    fun _ hne => State.dirtyOf_setDirtyOf_other hne [], rfl, rfl⟩

/-- Settles O41. -/
theorem storeRefusals : Obligations.StoreRefusals :=
  fun _ _ _ _ _ => ⟨fun hr => ⟨exec_attrWr_unknown hr, exec_attrTouch_unknown hr⟩, fun _ => exec_attrWr_illFormed,
    fun hep => ⟨exec_dirtyClr_unknown hep, exec_report_unknown hep⟩⟩

end Sys2Proof.Machine
end

section
/-! Running operations one after the other (30_encoding.md R117): that a run ends, what it keeps, and what each of its
operations leaves true to its end. -/

namespace Sys2Proof.Machine

variable {i : Instr} {is : List Instr} {s t : State} {P : State → Prop}

theorem runOps_cons_eq_next : runOps (i :: is) s = .next t ↔ ∃ u, exec i s = .next u ∧ runOps is u = .next t := by
  obtain ⟨u, hu⟩ := exec_is_next i s
  simp [runOps, hu]

theorem runOps_is_next (is : List Instr) (s : State) : ∃ t, runOps is s = .next t := by
  induction is generalizing s with
  | nil => exact ⟨s, rfl⟩
  | cons i is ih =>
    obtain ⟨u, hu⟩ := exec_is_next i s
    obtain ⟨t, ht⟩ := ih u
    exact ⟨t, runOps_cons_eq_next.mpr ⟨u, hu, ht⟩⟩

/-- The outcome is that next state, as a test that evaluates. -/
def endsIn (t : State) : Host.Outcome State Fault Refusal → Bool
  | .next u => decide (u = t)
  | .fault _ => false
  | .refused _ => false

theorem eq_next_of_endsIn {o : Host.Outcome State Fault Refusal} (h : endsIn t o = true) : o = .next t := by
  cases o with
  | next u => rw [of_decide_eq_true h]
  | fault r => cases h
  | refused r => cases h

/-- What each operation of a list keeps, the run of the list keeps. -/
theorem runOps_keeps (hstep : ∀ i ∈ is, ∀ u v, P u → exec i u = .next v → P v) (hs : P s) (h : runOps is s = .next t) :
    P t := by
  induction is generalizing s with
  | nil =>
    cases h
    exact hs
  | cons i is ih =>
    obtain ⟨u, hu, ht⟩ := runOps_cons_eq_next.mp h
    obtain ⟨hi, his⟩ := List.forall_mem_cons.mp hstep
    exact ih his (hi s u hs hu) ht

/-- What each operation of a list brings about, and each of the others keeps, holds at the end of the run for each of
them, where `P` is what the run keeps throughout. -/
theorem runOps_establishes {Q : Instr → State → Prop} (hP : ∀ i ∈ is, ∀ u v, P u → exec i u = .next v → P v)
    (hdone : ∀ i ∈ is, ∀ u v, P u → exec i u = .next v → Q i v)
    (hkept : ∀ i ∈ is, ∀ j ∈ is, ∀ u v, P u → Q i u → exec j u = .next v → Q i v)
    (hs : P s) (h : runOps is s = .next t) : ∀ i ∈ is, Q i t := by
  induction is generalizing s with
  | nil => exact List.forall_mem_nil _
  | cons i is ih =>
    obtain ⟨u, hu, ht⟩ := runOps_cons_eq_next.mp h
    have hPu : P u := hP i List.mem_cons_self s u hs hu
    have hPis : ∀ j ∈ is, ∀ u v, P u → exec j u = .next v → P v := fun j hj => hP j (List.mem_cons_of_mem i hj)
    refine List.forall_mem_cons.mpr ⟨?head, ?tail⟩
    case head =>
      have hboth : P t ∧ Q i t := runOps_keeps (P := fun u => P u ∧ Q i u)
        (fun j hj u v ⟨hPu, hQu⟩ hv => ⟨hPis j hj u v hPu hv,
          hkept i List.mem_cons_self j (List.mem_cons_of_mem i hj) u v hPu hQu hv⟩)
        ⟨hPu, hdone i List.mem_cons_self s u hs hu⟩ ht
      exact hboth.2
    case tail =>
      exact ih hPis (fun j hj => hdone j (List.mem_cons_of_mem i hj))
        (fun j hj l hl => hkept j (List.mem_cons_of_mem i hj) l (List.mem_cons_of_mem i hl)) hPu ht

end Sys2Proof.Machine
end

section
/-! A parse pass and its repetition (43_attribute_store.md R197; log entry 23): a pass settles each value it writes, clearing
empties the dirty sets, and settled writes do nothing in Steady. -/

namespace Sys2Proof.Machine

variable {i j : Instr} {w : List Instr} {s t u : State} {c : Config}

/-! ### Steady through a pass (R29, R30, R197) -/

/-- A state of a run under `c` in Steady without always-publish. -/
structure State.SteadyRun (c : Config) (s : State) : Prop where
  inv : s.Inv
  cfg : s.cfg = c
  firstRun : s.firstRun = false
  alwaysPublish : s.alwaysPublish = false

/-- What a repeated pass consists of: the parser's unforced operations and DIRTY.CLR (R197). -/
def PassOperation (i : Instr) : Prop := unforcedWrite i = true ∨ ∃ ep, i = .dirtyClr ep

theorem unforcedWrite_eq_true :
    unforcedWrite i = true ↔ (∃ k v, i = .attrWr k false v) ∨ ∃ k, i = .attrTouch k false := by
  cases i <;> simp [unforcedWrite]

theorem PassOperation.cases (h : PassOperation i) :
    (∃ k v, i = .attrWr k false v) ∨ (∃ k, i = .attrTouch k false) ∨ ∃ ep, i = .dirtyClr ep :=
  or_assoc.mp (h.imp_left unforcedWrite_eq_true.mp)

theorem State.SteadyRun.of_exec (hs : s.SteadyRun c) (hi : PassOperation i) (h : exec i s = .next t) : t.SteadyRun c := by
  have heff := effect_of_exec h
  refine ⟨heff.inv hs.inv, heff.cfg_eq.trans hs.cfg, ?_, ?_⟩
  case refine_1 =>
    by_contra hne
    have hwriter := heff.firstRun_writers fun heq => hne (heq.trans hs.firstRun)
    rcases hi.cases with ⟨k, v, rfl⟩ | ⟨k, rfl⟩ | ⟨ep, rfl⟩ <;> simp at hwriter
  case refine_2 =>
    by_contra hne
    have hwriter := heff.alwaysPublish_writers fun heq => hne (heq.trans hs.alwaysPublish)
    rcases hi.cases with ⟨k, v, rfl⟩ | ⟨k, rfl⟩ | ⟨ep, rfl⟩ <;> simp at hwriter

theorem State.SteadyRun.publishes_eq_false (hs : s.SteadyRun c) : s.publishes false = false := by
  simp [State.publishes, hs.firstRun, hs.alwaysPublish]

/-! ### The first pass settles what it writes (R191) -/

/-- What the operation writes, if it is admitted, is the key's value already. -/
def State.Settled (s : State) (i : Instr) : Prop :=
  ∀ k v r, writtenTo k i = some v → s.cfg.row k = some r → s.cfg.valueWf r.tag v = true → s.value k = some v

theorem writtenTo_eq_some {k : Key} {v : List Byte} : writtenTo k i = some v ↔ ∃ force, i = .attrWr k force v := by
  cases i <;> simp [writtenTo, ite_eq_iff]

/-- A value changes only to one that the operation writes to the key, and by RESET. -/
theorem Effect.value_cases (h : Effect s i t) (hs : Sparse.Sorted s.store) (hi : i ≠ .reset) (k : Key) :
    t.value k = s.value k ∨ ∃ v, writtenTo k i = some v ∧ t.value k = some v := by
  cases h with
  | @write k' force v r hr hv =>
    rw [← State.writeRow_frame]
    by_cases hk : k = k'
    · subst hk
      exact .inr ⟨v, if_pos rfl, State.value_writeRow_self hs hr⟩
    · exact .inl (State.value_writeRow_other hr hk)
  | reset => exact absurd rfl hi
  | _ => exact .inl rfl

theorem State.settled_of_exec (hs : s.Inv) (h : exec i s = .next t) : t.Settled i := by
  intro k v r hw hr hv
  obtain ⟨force, rfl⟩ := writtenTo_eq_some.mp hw
  rw [(effect_of_exec h).cfg_eq] at hr hv
  obtain ⟨-, -, -, -, ⟨hsorted, -⟩, -⟩ := hs
  cases (exec_attrWr hr hv).symm.trans h
  exact State.value_writeRow_self hsorted hr

/-- An operation that writes no other value to the key leaves a write settled. -/
theorem State.Settled.kept (hi : s.Settled i) (hs : s.Inv) (hj : j ≠ .reset)
    (hone : ∀ k u v, writtenTo k i = some u → writtenTo k j = some v → u = v) (h : exec j s = .next t) : t.Settled i := by
  intro k v r hw hr hv
  have heff := effect_of_exec h
  rw [heff.cfg_eq] at hr hv
  obtain ⟨-, -, -, -, ⟨hsorted, -⟩, -⟩ := hs
  rcases heff.value_cases hsorted hj k with hsame | ⟨v', hw', hvalue⟩
  · exact hsame.trans (hi k v r hw hr hv)
  · rw [hvalue, hone k v v' hw hw']

theorem PassOperation.ne_reset (h : PassOperation i) : i ≠ .reset := by
  rcases h.cases with ⟨k, v, rfl⟩ | ⟨k, rfl⟩ | ⟨ep, rfl⟩ <;> simp

theorem State.SteadyRun.of_runOps (hs : s.SteadyRun c) (hw : ∀ i ∈ w, PassOperation i) (h : runOps w s = .next t) :
    t.SteadyRun c := runOps_keeps (fun i hi _ _ hu hv => hu.of_exec (hw i hi) hv) hs h

theorem State.SteadyRun.settles (hs : s.SteadyRun c) (hw : ∀ i ∈ w, PassOperation i) (hone : OneValueEach w)
    (h : runOps w s = .next t) : ∀ i ∈ w, t.Settled i :=
  runOps_establishes (fun i hi _ _ hu hv => hu.of_exec (hw i hi) hv) (fun _ _ _ _ hu hv => State.settled_of_exec hu.inv hv)
    (fun i hi j hj _ _ hu hset hv => hset.kept hu.inv (hw j hj).ne_reset (fun k => hone k i hi j hj) hv) hs h

/-! ### Clearing every dirty set (R195) -/

/-- DIRTY.CLR of the endpoint of each row (R197). -/
def clearAll (c : Config) : List Instr := c.attrTable.map (fun r => .dirtyClr r.key.ep)

theorem mem_clearAll : i ∈ clearAll c ↔ ∃ r ∈ c.attrTable, i = .dirtyClr r.key.ep := by
  simp [clearAll, eq_comm]

theorem passOperation_of_mem_clearAll (hi : i ∈ clearAll c) : PassOperation i := by
  obtain ⟨r, -, rfl⟩ := mem_clearAll.mp hi
  exact .inr ⟨_, rfl⟩

theorem Config.hasEndpoint_of_mem {r : AttrRow} (hr : r ∈ c.attrTable) : c.hasEndpoint r.key.ep = true :=
  List.any_eq_true.mpr ⟨r, hr, beq_self_eq_true _⟩

/-- Clearing one endpoint's set empties it and leaves an empty set of any endpoint empty. -/
theorem State.dirtyOf_setDirtyOf_nil (hs : Sparse.Sorted s.dirty) {ep ep' : Byte} (h : ep' = ep ∨ s.dirtyOf ep' = []) :
    (s.setDirtyOf ep []).dirtyOf ep' = [] := by
  by_cases hep : ep' = ep
  · rw [hep, State.dirtyOf_setDirtyOf_self hs]
  · rw [State.dirtyOf_setDirtyOf_other hep, h.resolve_left hep]

/-- Every listed dirty set is one of an endpoint of some row (R35). -/
theorem DirtySets.eq_nil_of_dirtyOf (hwf : DirtySets.wf s.cfg s.dirty)
    (h : ∀ r ∈ s.cfg.attrTable, s.dirtyOf r.key.ep = []) : s.dirty = [] := by
  obtain ⟨-, hentries⟩ := hwf
  cases hd : s.dirty with
  | nil => rfl
  | cons e m =>
    obtain ⟨hne, -, hkeys⟩ := hentries e (hd ▸ List.mem_cons_self)
    obtain ⟨k, hk⟩ := List.exists_mem_of_ne_nil _ hne
    obtain ⟨hep, hrow⟩ := hkeys k hk
    obtain ⟨r, hr⟩ := Option.isSome_iff_exists.mp hrow
    have hset : s.dirtyOf k.ep = e.2 := by simp [State.dirtyOf, hd, Sparse.find, hep]
    have hempty := h r (Config.row_mem hr)
    rw [Config.row_key hr, hset] at hempty
    exact absurd hempty hne

/-- Each operation of `clearAll` is admitted: it clears one set. -/
theorem State.SteadyRun.cleared_of_exec (hs : s.SteadyRun c) (hi : i ∈ clearAll c) (h : exec i s = .next t) :
    ∃ ep, i = .dirtyClr ep ∧ t = (s.setDirtyOf ep []).returns .none := by
  obtain ⟨r, hr, rfl⟩ := mem_clearAll.mp hi
  have hep : s.cfg.hasEndpoint r.key.ep = true := hs.cfg ▸ Config.hasEndpoint_of_mem hr
  cases (exec_dirtyClr hep).symm.trans h
  exact ⟨_, rfl, rfl⟩

theorem State.SteadyRun.dirtyOf_of_exec (hs : s.SteadyRun c) (hi : i ∈ clearAll c) {ep : Byte}
    (hor : i = .dirtyClr ep ∨ s.dirtyOf ep = []) (h : exec i s = .next t) : t.dirtyOf ep = [] := by
  obtain ⟨ep', rfl, rfl⟩ := hs.cleared_of_exec hi h
  obtain ⟨-, -, -, -, -, ⟨hsorted, -⟩⟩ := hs.inv
  exact State.dirtyOf_setDirtyOf_nil hsorted (hor.imp_left fun heq => (Instr.dirtyClr.inj heq).symm)

theorem State.SteadyRun.of_exec_clearAll (hs : s.SteadyRun c) (hi : i ∈ clearAll c) (h : exec i s = .next t) :
    t.SteadyRun c := hs.of_exec (passOperation_of_mem_clearAll hi) h

theorem State.SteadyRun.clearAll_store (hs : s.SteadyRun c) (h : runOps (clearAll c) s = .next t) : t.store = s.store := by
  have hkept : t.SteadyRun c ∧ t.store = s.store :=
    runOps_keeps (P := fun u => State.SteadyRun c u ∧ u.store = s.store)
      (fun i hi u v ⟨hu, hst⟩ hv => by
        refine ⟨hu.of_exec_clearAll hi hv, ?_⟩
        obtain ⟨ep, -, rfl⟩ := hu.cleared_of_exec hi hv
        exact hst) ⟨hs, rfl⟩ h
  exact hkept.2

/-- Clearing the set of each row's endpoint leaves no dirty key anywhere. -/
theorem State.SteadyRun.clearAll_dirty (hs : s.SteadyRun c) (h : runOps (clearAll c) s = .next t) : t.dirty = [] := by
  have hempty : ∀ i ∈ clearAll c, ∀ ep, i = .dirtyClr ep → t.dirtyOf ep = [] :=
    runOps_establishes (Q := fun i u => ∀ ep, i = .dirtyClr ep → u.dirtyOf ep = [])
      (fun i hi u v hu hv => State.SteadyRun.of_exec_clearAll hu hi hv)
      (fun i hi u v hu hv ep hep => hu.dirtyOf_of_exec hi (.inl hep) hv)
      (fun i _ j hj u v hu hQ hv ep hep => hu.dirtyOf_of_exec hj (.inr (hQ ep hep)) hv) hs h
  have ht : t.SteadyRun c := hs.of_runOps (fun _ => passOperation_of_mem_clearAll) h
  obtain ⟨-, -, -, -, -, hwf⟩ := ht.inv
  refine DirtySets.eq_nil_of_dirtyOf hwf fun r hr => ?_
  exact hempty (.dirtyClr r.key.ep) (mem_clearAll.mpr ⟨r, ht.cfg ▸ hr, rfl⟩) _ rfl

/-! ### The repeated pass does nothing (R197) -/

/-- A settled unforced operation in Steady ends with no mark and no change of a value. -/
theorem State.SteadyRun.exec_settled (hs : s.SteadyRun c) (hi : unforcedWrite i = true) (hset : s.Settled i)
    (h : exec i s = .next t) : t.dirty = s.dirty ∧ t.store = s.store := by
  rcases unforcedWrite_eq_true.mp hi with ⟨k, v, rfl⟩ | ⟨k, rfl⟩
  case inl =>
    cases hr : s.cfg.row k with
    | none =>
      cases (exec_attrWr_unknown hr).symm.trans h
      exact ⟨rfl, rfl⟩
    | some r =>
      cases hv : s.cfg.valueWf r.tag v
      case false =>
        cases (exec_attrWr_illFormed hr hv).symm.trans h
        exact ⟨rfl, rfl⟩
      case true =>
        have hquiet : s.writeMarks r false v = false := by
          simp [State.writeMarks, hs.publishes_eq_false, State.changed, ← State.value_of_row hr, hset k v r (if_pos rfl) hr hv]
        cases (exec_attrWr hr hv).symm.trans h
        rw [State.writeRow_unmarked hquiet]
        exact ⟨rfl, rfl⟩
  case inr =>
    cases hr : s.cfg.row k with
    | none =>
      cases (exec_attrTouch_unknown hr).symm.trans h
      exact ⟨rfl, rfl⟩
    | some r =>
      cases (exec_attrTouch hr).symm.trans h
      rw [hs.publishes_eq_false]
      exact ⟨rfl, rfl⟩

theorem State.value_congr (hcfg : t.cfg = s.cfg) (hstore : t.store = s.store) (k : Key) : t.value k = s.value k := by
  simp only [State.value, State.rowValue, hcfg, hstore]

/-- What is settled depends on the configuration and the values only. -/
theorem State.Settled.congr (h : s.Settled i) (hcfg : t.cfg = s.cfg) (hstore : t.store = s.store) : t.Settled i := by
  intro k v r hw hr hv
  rw [hcfg] at hr hv
  exact (State.value_congr hcfg hstore k).trans (h k v r hw hr hv)

theorem State.SteadyRun.runOps_settled (hs : s.SteadyRun c) (hw : ∀ i ∈ w, unforcedWrite i = true)
    (hset : ∀ i ∈ w, s.Settled i) (h : runOps w s = .next t) : t.dirty = s.dirty ∧ t.store = s.store := by
  have hkept : t.SteadyRun c ∧ t.dirty = s.dirty ∧ t.store = s.store :=
    runOps_keeps (P := fun u => State.SteadyRun c u ∧ u.dirty = s.dirty ∧ u.store = s.store)
      (fun i hi u v ⟨hu, hd, hst⟩ hv => by
        have hsettled : u.Settled i := (hset i hi).congr (hu.cfg.trans hs.cfg.symm) hst
        obtain ⟨hd', hst'⟩ := hu.exec_settled (hw i hi) hsettled hv
        exact ⟨hu.of_exec (.inl (hw i hi)) hv, hd'.trans hd, hst'.trans hst⟩) ⟨hs, rfl, rfl⟩ h
  exact hkept.2

/-- Settles O42: the first pass settles its writes, clearing leaves them settled and the dirty sets empty, and a settled
pass does nothing. -/
theorem repeatedParsePassMarksNothing : Obligations.RepeatedParsePassMarksNothing := by
  intro s w hinv hfirst halways hw hone
  have hs : s.SteadyRun s.cfg := ⟨hinv, rfl, hfirst, halways⟩
  have hpass : ∀ i ∈ w, PassOperation i := fun i hi => .inl (hw i hi)
  obtain ⟨t, ht⟩ := runOps_is_next w s
  obtain ⟨m, hm⟩ := runOps_is_next (clearAll s.cfg) t
  obtain ⟨u, hu⟩ := runOps_is_next w m
  have hst : t.SteadyRun s.cfg := hs.of_runOps hpass ht
  have hsm : m.SteadyRun s.cfg := hst.of_runOps (fun _ => passOperation_of_mem_clearAll) hm
  have hset : ∀ i ∈ w, m.Settled i := fun i hi =>
    (hs.settles hpass hone ht i hi).congr (hsm.cfg.trans hst.cfg.symm) (hst.clearAll_store hm)
  obtain ⟨hud, hus⟩ := hsm.runOps_settled hw hset hu
  exact ⟨t, u, ht, (runOps_append hm).trans hu, hud.trans (hst.clearAll_dirty hm), hus.trans (hst.clearAll_store hm)⟩

/-! ### Two values for one key (log entry 23) -/

/-- After power-on and an acknowledgement: Steady, nothing dirty, every value its reset content. -/
def steadyReset : State := State.reset.setFirstRun false

/-- A pass that writes 3 and then 5 to one key of endpoint 1, whose value is 0 at reset. -/
def twoValuePass : List Instr := [.attrWr ⟨1, 0x0702, 0x0300⟩ false [0x03], .attrWr ⟨1, 0x0702, 0x0300⟩ false [0x05]]

theorem steadyReset_inv : steadyReset.Inv := State.resetWith_inv Config.default_wellFormed

/-- The state the pass leaves: the last value, marked. -/
def twoValueState : State :=
  { steadyReset with
    store := [(Key.addr ⟨1, 0x0702, 0x0300⟩, [0x05])], dirty := [(1, [⟨1, 0x0702, 0x0300⟩])], ret := ⟨.ok, .marked true⟩ }

theorem runOps_twoValuePass : runOps twoValuePass steadyReset = .next twoValueState := eq_next_of_endsIn (by decide)

/-- The repetition finds 5 and writes 3, and so marks the key again. -/
theorem runOps_clearAll_twoValuePass :
    runOps (clearAll Config.default ++ twoValuePass) twoValueState = .next twoValueState := eq_next_of_endsIn (by decide)

/-- Refutes O43: a pass that writes 3 and then 5 to one key marks the key when it is repeated. -/
theorem not_repeatedParsePassAsWorded : ¬ Obligations.RepeatedParsePassAsWorded := by
  intro h
  obtain ⟨t, u, ht, hu, hdirty, -⟩ := h steadyReset twoValuePass steadyReset_inv rfl rfl (by decide)
  cases runOps_twoValuePass.symm.trans ht
  cases runOps_clearAll_twoValuePass.symm.trans hu
  exact absurd hdirty (by decide)

end Sys2Proof.Machine
end
section
/-! The report encoder (44_report_encoder.md R211 to R216): what the groups of a list of keys are, which keys are sent, and
what the loop of REPORT hands over, group by group. -/

namespace Sys2Proof.Machine

variable {s : State} {ep : Byte}

/-! ### Groups (R212) -/

/-- The distinct entries of a list stand in the order of their first occurrences. -/
theorem firstSeen_pairwise_idxOf {α : Type} [DecidableEq α] (l : List α) :
    (firstSeen l).Pairwise (fun a b => l.idxOf a < l.idxOf b) := by
  induction l with
  | nil => exact List.Pairwise.nil
  | cons c l ih =>
    refine List.pairwise_cons.mpr ⟨fun d hd => ?first, (ih.filter _).imp_of_mem fun {a b} ha hb hab => ?later⟩
    case first =>
      have hne : d ≠ c := of_decide_eq_true (List.mem_filter.mp hd).2
      rw [List.idxOf_cons_self, List.idxOf_cons_ne l hne.symm]
      exact Nat.succ_pos _
    case later =>
      have hac : a ≠ c := of_decide_eq_true (List.mem_filter.mp ha).2
      have hbc : b ≠ c := of_decide_eq_true (List.mem_filter.mp hb).2
      rw [List.idxOf_cons_ne l hac.symm, List.idxOf_cons_ne l hbc.symm]
      exact Nat.succ_lt_succ hab

theorem groups_clusters (l : List Key) : (groups l).map Prod.fst = firstSeen (l.map Key.cluster) := by
  rw [groups, List.map_map]
  exact List.map_id _

theorem mem_groups {l : List Key} {g : Half × List Key} :
    g ∈ groups l ↔ g.1 ∈ l.map Key.cluster ∧ g.2 = l.filter (fun k => k.cluster == g.1) := by
  rw [groups, List.mem_map]
  constructor
  · rintro ⟨c, hc, rfl⟩
    exact ⟨mem_firstSeen.mp hc, rfl⟩
  · rintro ⟨hc, hms⟩
    exact ⟨g.1, mem_firstSeen.mpr hc, Prod.ext rfl hms.symm⟩

theorem groups_members_ne_nil {l : List Key} {g : Half × List Key} (hg : g ∈ groups l) : g.2 ≠ [] := by
  obtain ⟨hc, hms⟩ := mem_groups.mp hg
  obtain ⟨k, hk, hkc⟩ := List.mem_map.mp hc
  have hkms : k ∈ g.2 := hms ▸ List.mem_filter.mpr ⟨hk, beq_iff_eq.mpr hkc⟩
  exact List.ne_nil_of_mem hkms

/-- Settles O45: the clusters are the distinct ones in first-seen order, and each member list is the sublist. -/
theorem groupsAreByClusterInFirstSeenOrder : Obligations.GroupsAreByClusterInFirstSeenOrder := by
  intro l
  rw [groups_clusters]
  exact ⟨firstSeen_nodup _, fun _ => mem_firstSeen, firstSeen_pairwise_idxOf _,
    fun _ hg => ⟨groups_members_ne_nil hg, (mem_groups.mp hg).2⟩⟩

/-! ### The reported keys (R211) -/

/-- Grouping loses no key and adds none: a key is in the group of its cluster. -/
theorem exists_mem_groups {l : List Key} {k : Key} : (∃ g ∈ groups l, k ∈ g.2) ↔ k ∈ l := by
  constructor
  · rintro ⟨g, hg, hk⟩
    rw [(mem_groups.mp hg).2] at hk
    exact (List.mem_filter.mp hk).1
  · intro hk
    exact ⟨(k.cluster, l.filter (fun k' => k'.cluster == k.cluster)), mem_groups.mpr ⟨List.mem_map_of_mem hk, rfl⟩,
      List.mem_filter.mpr ⟨hk, beq_self_eq_true _⟩⟩

theorem State.mem_reportable {k : Key} : k ∈ s.reportable ep ↔ k ∈ s.dirtyOf ep ∧ (s.record k).isSome = true :=
  List.mem_filter

/-- A key has a record exactly if it has a row and its value is set (R99, R211). -/
theorem State.record_isSome_iff {k : Key} :
    (s.record k).isSome = true ↔
      ∃ r v, s.cfg.row k = some r ∧ s.value k = some v ∧ s.record k = some ⟨k.id, r.tag, v⟩ := by
  constructor
  · intro h
    cases hr : s.cfg.row k with
    | none => simp [State.record, hr] at h
    | some r =>
      rw [State.record_eq, Option.isSome_map] at h
      obtain ⟨v, hv⟩ := Option.isSome_iff_exists.mp h
      exact ⟨r, v, rfl, hv, by simp [State.record_eq, State.tagOf, hr, hv]⟩
  · rintro ⟨r, v, -, -, h⟩
    exact Option.isSome_of_eq_some h

/-- Settles O46: a key is in a group exactly if it is reportable, and then it has a record. -/
theorem reportedKeysAreTheDirtySetOnes : Obligations.ReportedKeysAreTheDirtySetOnes := by
  intro ep s k
  rw [← State.record_isSome_iff, ← State.mem_reportable, ← exists_mem_groups]
  constructor
  · rintro ⟨g, hg, hk, -⟩
    exact ⟨g, hg, hk⟩
  · rintro ⟨g, hg, hk⟩
    have hrep : k ∈ s.reportable ep := exists_mem_groups.mp ⟨g, hg, hk⟩
    obtain ⟨rec, hrec⟩ := Option.isSome_iff_exists.mp (State.mem_reportable.mp hrep).2
    exact ⟨g, hg, hk, rec, List.mem_filterMap.mpr ⟨k, hk, hrec⟩, hrec⟩

/-! ### One report frame (R213, R214) -/

variable {tx : TxEnvelope}

@[simp] theorem State.sendReport_cfg : (s.sendReport tx).cfg = s.cfg := by rw [State.sendReport_eq]

@[simp] theorem State.sendReport_txAnswers : (s.sendReport tx).txAnswers = s.txAnswers.tail := by
  rw [State.sendReport_eq]

@[simp] theorem State.sendReport_trace : (s.sendReport tx).trace = s.trace ++ [.transmit tx s.txAnswer] := by
  rw [State.sendReport_eq]

/-- A record is made of the configuration and the store, and sending writes neither. -/
@[simp] theorem State.sendReport_record : (s.sendReport tx).record = s.record := by
  rw [State.sendReport_eq]
  rfl

/-- `n` steps of SEQ after a report are `n` steps before it, and one more if the report was accepted. -/
theorem State.sendReport_seq_add (n : Nat) :
    (s.sendReport tx).seq + BitVec.ofNat 8 n = s.seq + BitVec.ofNat 8 (n + if s.txAnswer = true then 1 else 0) := by
  rw [State.sendReport_eq]
  cases s.txAnswer
  · rfl
  · show s.seq + 1 + _ = _
    rw [if_pos rfl, BitVec.ofNat_add, add_comm (BitVec.ofNat 8 n), ← add_assoc]
    rfl

theorem State.txAnswer_of_getElem?_zero {a : Bool} (h : s.txAnswers[0]? = some a) : s.txAnswer = a := by
  unfold State.txAnswer
  cases hl : s.txAnswers with
  | nil => simp [hl] at h
  | cons b l => simpa [hl] using h

/-! ### The loop of REPORT (R213 to R215) -/

/-- How many of these report frames the transport accepted. -/
abbrev acceptedCount (sent : List (List Byte × Half × Bool)) : Nat := sent.countP (fun x => x.2.2)

theorem sendGroups_length (gs : List (Half × List Key)) (s : State) : (sendGroups ep gs s).2.length = gs.length := by
  induction gs generalizing s with
  | nil => rfl
  | cons g gs ih => exact congrArg Nat.succ (ih _)

/-- Frame `n` is that of group `n`, with SEQ advanced by the frames accepted before it. -/
theorem sendGroups_getElem? (gs : List (Half × List Key)) (s : State) {n : Nat} {g : Half × List Key}
    (hg : gs[n]? = some g) :
    ∃ a, (sendGroups ep gs s).2[n]? = some
      (reportFrame s.cfg.wire (s.seq + BitVec.ofNat 8 (acceptedCount ((sendGroups ep gs s).2.take n)))
        (g.2.filterMap s.record), g.1, a) := by
  induction gs generalizing s n with
  | nil => simp at hg
  | cons g' gs ih =>
    cases n with
    | zero =>
      obtain rfl : g' = g := by simpa using hg
      exact ⟨s.txAnswer, by simp [sendGroups, State.reportTx]⟩
    | succ n =>
      obtain ⟨a, ha⟩ := ih (s.sendReport (s.reportTx ep g'.1 (g'.2.filterMap s.record))) hg
      refine ⟨a, ?_⟩
      rw [State.sendReport_seq_add, State.sendReport_cfg, State.sendReport_record] at ha
      simpa only [sendGroups, List.getElem?_cons_succ, List.take_succ_cons, acceptedCount, List.countP_cons] using ha

/-- The answers come from the state's list as long as it lasts (R13; log entry 3). -/
theorem sendGroups_answer (gs : List (Half × List Key)) (s : State) {n : Nat} {a : Bool}
    (ha : s.txAnswers[n]? = some a) (hn : n < (sendGroups ep gs s).2.length) :
    ((sendGroups ep gs s).2[n]?).map (fun x => x.2.2) = some a := by
  induction gs generalizing s n with
  | nil => exact absurd hn (Nat.not_lt_zero n)
  | cons g gs ih =>
    cases n with
    | zero => exact congrArg some (State.txAnswer_of_getElem?_zero ha)
    | succ n =>
      refine ih (s.sendReport (s.reportTx ep g.1 (g.2.filterMap s.record))) ?_ (Nat.lt_of_succ_lt_succ hn)
      rw [State.sendReport_txAnswers, List.getElem?_tail, ha]

theorem sendGroups_seq (gs : List (Half × List Key)) (s : State) :
    (sendGroups ep gs s).1.seq = s.seq + BitVec.ofNat 8 (acceptedCount (sendGroups ep gs s).2) := by
  induction gs generalizing s with
  | nil => exact (add_zero s.seq).symm
  | cons g gs ih =>
    simp only [sendGroups, acceptedCount, List.countP_cons]
    rw [ih, State.sendReport_seq_add]

theorem sendGroups_trace (gs : List (Half × List Key)) (s : State) :
    (sendGroups ep gs s).1.trace = s.trace ++ (sendGroups ep gs s).2.map (fun x =>
      .transmit ⟨⟨s.cfg.reportDest, ep, s.cfg.reportDstEp⟩, x.2.1, s.cfg.profileId, x.1⟩ x.2.2) := by
  induction gs generalizing s with
  | nil => exact (List.append_nil s.trace).symm
  | cons g gs ih =>
    simp only [sendGroups, List.map_cons]
    rw [ih, State.sendReport_trace, State.sendReport_cfg, List.append_assoc, List.singleton_append]
    rfl

theorem sendGroups_txAnswers (gs : List (Half × List Key)) (s : State) :
    (sendGroups ep gs s).1.txAnswers = s.txAnswers.drop (sendGroups ep gs s).2.length := by
  induction gs generalizing s with
  | nil => rfl
  | cons g gs ih =>
    simp only [sendGroups, List.length_cons]
    rw [ih, State.sendReport_txAnswers, List.drop_tail]

theorem exec_report (h : s.cfg.hasEndpoint ep = true) : exec (.report ep) s = .next (s.reportAll ep) :=
  congrArg Host.Outcome.next (if_pos h)

/-- Settles O44: each clause is a fact about the loop over the groups, by induction on them. -/
theorem reportSendsOneFrameForEachGroup : Obligations.ReportSendsOneFrameForEachGroup := by
  intro ep s hep
  exact ⟨s.reportAll ep, (sendGroups ep (groups (s.reportable ep)) s).2, exec_report hep, rfl, sendGroups_length _ s,
    fun _ _ hg => sendGroups_getElem? _ s hg, fun _ _ ha hn => sendGroups_answer _ s ha hn,
    sendGroups_seq _ s, sendGroups_trace _ s, sendGroups_txAnswers _ s, s.reportAll_frame ep⟩

end Sys2Proof.Machine
end

section
/-! The command decoder (45_command_decoder.md R230 to R241): the row of a frame in the cases of the decoder, the results of a
read request, and FRAME.RX as the row of the frame it delivers. -/

namespace Sys2Proof

/-! ### The row of an inbound frame (R109, R231, R232, R250, R251, R259, R260) -/

variable {c : Config} {r : Route} {cluster profile : Half} {kind seq cmd tseq : Byte} {args payload body : List Byte}

theorem decodeDelivery_mg (c : Config) (r : Route) (cluster : Half) (payload : List Byte) :
    decodeDelivery c ⟨r, cluster, c.wire.mgProfile, payload⟩ = decodeMgFrame c ⟨r, cluster, c.wire.mgProfile, payload⟩ :=
  if_pos rfl

theorem decodeDelivery_cl (hp : profile ≠ c.wire.mgProfile) :
    decodeDelivery c ⟨r, cluster, profile, payload⟩ = decodeClFrame c ⟨r, cluster, profile, payload⟩ :=
  if_neg hp

theorem Wire.shortCl_eq_true {w : Wire} : w.shortCl payload = true ↔ payload.length < 3 ∨ payload.length < w.hdrLen := by
  simp only [Wire.shortCl, decide_eq_true_eq]
  omega

theorem decodeClFrame_short (h : c.wire.shortCl payload = true) :
    decodeClFrame c ⟨r, cluster, profile, payload⟩ = .clShort r cluster profile payload := by
  unfold decodeClFrame
  split
  · exact if_pos h
  · rfl

/-- Of a whole frame only the command byte decides (R231). -/
theorem decodeClFrame_whole (h : c.wire.hdrLen ≤ args.length + 3) :
    decodeClFrame c ⟨r, cluster, profile, kind :: seq :: cmd :: args⟩
      = if cmd = c.wire.cmdReadAttr then .clReadAttr r cluster profile kind seq args
        else if cmd = c.wire.cmdDefaultRsp then .clDefaultRsp r cluster profile kind seq args
        else .clOther r cluster profile kind seq cmd args := by
  refine if_neg ?_
  simpa using h

/-- A body shorter than the fixed part of an address response is no address response (R251, R258). -/
theorem decodeAddrRsp_short (f : Byte → BitVec 64 → Half → List Byte → Instr) (short : Instr) (h : body.length < 11) :
    decodeAddrRsp f short body = short := by
  unfold decodeAddrRsp
  split
  · simp only [List.length_cons] at h
    omega
  · rfl

/-- A frame that is empty or that ends before the fixed part its arm reads is MG.SHORT (R251, R279). -/
theorem decodeMgFrame_short (h : mgTooShort c.wire cluster payload = true) :
    decodeMgFrame c ⟨r, cluster, profile, payload⟩ = .mgShort r cluster payload := by
  cases payload with
  | nil => rfl
  | cons tseq body =>
    simp only [mgTooShort, List.length_cons, Nat.not_lt.mpr (Nat.le_add_left 1 _), if_false] at h
    simp only [decodeMgFrame]
    split_ifs at h ⊢
    case pos hsimple =>
      match body, decide_eq_true_eq.mp h with
      | [], _ | [_], _ | [_, _], _ => rfl
    case pos hactive =>
      match body, decide_eq_true_eq.mp h with
      | [], _ | [_], _ => rfl
    case pos hnwk => exact decodeAddrRsp_short _ _ (Nat.lt_of_succ_lt_succ (decide_eq_true_eq.mp h))
    case pos hieee => exact decodeAddrRsp_short _ _ (Nat.lt_of_succ_lt_succ (decide_eq_true_eq.mp h))

theorem decodeMgFrame_unknown (h : cluster ∉ c.wire.mgCommands) :
    decodeMgFrame c ⟨r, cluster, profile, tseq :: body⟩ = .mgOther r cluster tseq body := by
  simp only [Wire.mgCommands, List.mem_cons, List.not_mem_nil, or_false, not_or] at h
  simp only [decodeMgFrame, h, if_false]

/-- The cluster of an arm differs from those of the arms that `decodeMgFrame` tries before it (R9, R250). -/
theorem Wire.Distinct.mgCommands_ne {w : Wire} (h : w.Distinct) :
    w.mgActiveEpReq ≠ w.mgSimpleDescReq ∧
    (w.mgNwkAddrRsp ≠ w.mgSimpleDescReq ∧ w.mgNwkAddrRsp ≠ w.mgActiveEpReq ∧ w.mgNwkAddrRsp ≠ w.mgBindReq ∧
      w.mgNwkAddrRsp ≠ w.mgUnbindReq) ∧
    (w.mgIeeeAddrRsp ≠ w.mgSimpleDescReq ∧ w.mgIeeeAddrRsp ≠ w.mgActiveEpReq ∧ w.mgIeeeAddrRsp ≠ w.mgBindReq ∧
      w.mgIeeeAddrRsp ≠ w.mgUnbindReq ∧ w.mgIeeeAddrRsp ≠ w.mgNwkAddrRsp) ∧
    w.mgNodeDescRsp ≠ w.mgSimpleDescReq ∧ w.mgNodeDescRsp ≠ w.mgActiveEpReq ∧ w.mgNodeDescRsp ≠ w.mgBindReq ∧
      w.mgNodeDescRsp ≠ w.mgUnbindReq ∧ w.mgNodeDescRsp ≠ w.mgNwkAddrRsp ∧ w.mgNodeDescRsp ≠ w.mgIeeeAddrRsp := by
  obtain ⟨-, -, -, hmg⟩ := h
  have hrev : w.mgCommands.reverse.Nodup := List.nodup_reverse.mpr (List.nodup_append.mp hmg).1
  simp only [Wire.mgCommands, List.reverse_cons, List.reverse_nil, List.nil_append, List.cons_append, List.nodup_cons,
    List.mem_cons, List.not_mem_nil, or_false, not_or] at hrev
  tauto

theorem decodeMgFrame_nodeDescRsp (h : c.wire.Distinct) :
    decodeMgFrame c ⟨r, c.wire.mgNodeDescRsp, profile, tseq :: body⟩ = .mgNodeDescRsp r tseq body := by
  obtain ⟨-, -, -, hnode⟩ := h.mgCommands_ne
  simp only [decodeMgFrame, hnode, if_false, if_true]

/-- Where the clusters differ, the length that makes a management frame too short is the one of its own arm (R9, R251,
R279; D26). -/
theorem mgTooShort_of_cases {w : Wire}
    (h : payload = [] ∨ (cluster = w.mgSimpleDescReq ∧ payload.length < 4) ∨
      (cluster = w.mgActiveEpReq ∧ payload.length < 3 ∧ w.Distinct) ∨
      (cluster ∈ [w.mgNwkAddrRsp, w.mgIeeeAddrRsp] ∧ payload.length < 12 ∧ w.Distinct)) :
    mgTooShort w cluster payload = true := by
  simp only [List.mem_cons, List.not_mem_nil, or_false] at h
  obtain rfl | ⟨rfl, hlen⟩ | ⟨rfl, hlen, hd⟩ | ⟨rfl | rfl, hlen, hd⟩ := h
  · rfl
  · simp [mgTooShort, hlen]
  · simp [mgTooShort, hlen, hd.mgCommands_ne]
  · simp [mgTooShort, hlen, hd.mgCommands_ne]
  · simp [mgTooShort, hlen, hd.mgCommands_ne]

/-! ### The results of a read request (R101, R235, R241) -/

/-- The length of one result (R241). -/
def AttrResult.size : AttrResult → Nat
  | .found _ _ v => 4 + v.length
  | .unsupported _ => 3

theorem AttrResult.bytes_length (w : Wire) (res : AttrResult) : (res.bytes w).length = res.size := by
  cases res with
  | found id tag v =>
    simp only [AttrResult.bytes, AttrResult.size, List.length_append, le16_length, List.length_cons]
    omega
  | unsupported id => rfl

theorem readAttrRspFrame_length (w : Wire) (seq : Byte) (results : List AttrResult) :
    (readAttrRspFrame w seq results).length = 3 + (results.map AttrResult.size).sum := by
  simp only [readAttrRspFrame, List.length_cons, List.length_flatMap, AttrResult.bytes_length]
  exact Nat.add_comm _ 3

end Sys2Proof

namespace Sys2Proof.Machine

variable {s : State} {r : Route} {cluster profile : Half} {kind seq : Byte} {args : List Byte}

/-! ### FRAME.RX performs the row of its frame (R109, R230, R231, R250; D18; log entry 7) -/

theorem exec_decodeClFrame (env : Envelope) (s : State) :
    exec (decodeClFrame s.cfg env) s = .next (s.clDispatch env) := by
  obtain ⟨r, cluster, profile, payload⟩ := env
  match payload with
  | [] | [_] | [_, _] => rfl
  | kind :: seq :: cmd :: args =>
    simp only [decodeClFrame, State.clDispatch]
    split_ifs <;> rfl

/-- The address-response arm, for either of its two rows (R251, R258). -/
theorem exec_decodeAddrRsp {f : Byte → BitVec 64 → Half → List Byte → Instr} {short : Instr}
    (hlearn : ∀ st long addr rest, exec (f st long addr rest) s = .next (s.learnPeer long addr))
    (hshort : exec short s = .next (s.dropFrame .shortFrame)) (body : List Byte) :
    exec (decodeAddrRsp f short body) s = .next (s.addrRsp body) := by
  unfold decodeAddrRsp
  split
  · exact hlearn _ _ _ _
  next hno => rwa [State.addrRsp.eq_2 s body hno]

theorem exec_decodeMgFrame (env : Envelope) (s : State) :
    exec (decodeMgFrame s.cfg env) s = .next (s.mgDispatch env) := by
  obtain ⟨r, cluster, profile, payload⟩ := env
  cases payload with
  | nil => rfl
  | cons tseq body =>
    simp only [decodeMgFrame, State.mgDispatch]
    split_ifs
    case pos hsimple =>
      match body with
      | [] | [_] | [_, _] | _ :: _ :: _ :: _ => rfl
    case pos hactive =>
      match body with
      | [] | [_] | _ :: _ :: _ => rfl
    case pos hbind => rfl
    case pos hunbind => rfl
    case pos hnwk => exact exec_decodeAddrRsp (fun _ _ _ _ => rfl) rfl body
    case pos hieee => exact exec_decodeAddrRsp (fun _ _ _ _ => rfl) rfl body
    case pos hnode => rfl
    case neg => rfl

theorem exec_frameRx (env : Envelope) (s : State) : exec (.frameRx env) s = exec (decodeDelivery s.cfg env) s := by
  unfold decodeDelivery
  split
  next hmg => exact (congrArg Host.Outcome.next (if_pos hmg)).trans (exec_decodeMgFrame env s).symm
  next hcl => exact (congrArg Host.Outcome.next (if_neg hcl)).trans (exec_decodeClFrame env s).symm

/-- Settles O9: the decoder and FRAME.RX choose the namespace alike, and each row has the meaning of its arm. -/
theorem frameRxPerformsTheRowOfTheFrame : Obligations.FrameRxPerformsTheRowOfTheFrame := exec_frameRx

/-! ### CL.READ_ATTR (R233 to R237, R241) -/

theorem State.value_of_row_none {k : Key} (h : s.cfg.row k = none) : s.value k = none := by
  simp only [State.value, h]

theorem State.attrResult_of_value {ep : Byte} {id : Half} {row : AttrRow} {v : List Byte}
    (hr : s.cfg.row ⟨ep, cluster, id⟩ = some row) (hv : s.value ⟨ep, cluster, id⟩ = some v) :
    s.attrResult ep cluster id = .found id row.tag v := by
  rw [State.value_of_row hr] at hv
  simp only [State.attrResult, hr, hv]

/-- An unset value is answered like a key that ATTR_TABLE lacks (R235). -/
theorem State.attrResult_of_value_none {ep : Byte} {id : Half} (hv : s.value ⟨ep, cluster, id⟩ = none) :
    s.attrResult ep cluster id = .unsupported id := by
  cases hr : s.cfg.row ⟨ep, cluster, id⟩ with
  | none => simp only [State.attrResult, hr]
  | some row =>
    rw [State.value_of_row hr] at hv
    simp only [State.attrResult, hr, hv]

/-- A response frame is its header and the bytes of each id's result (R101, R234, R235). -/
theorem readAttrRspFrame_attrResults {ep seq : Byte} {res : Half → List Byte}
    (hres : ∀ id, (s.attrResult ep cluster id).bytes s.cfg.wire = res id) (args : List Byte) :
    readAttrRspFrame s.cfg.wire seq (s.attrResults ep cluster args)
      = [s.cfg.wire.fkResponse, seq, s.cfg.wire.cmdReadAttrRsp] ++ (idsOf args).flatMap res := by
  obtain rfl : (fun id => (s.attrResult ep cluster id).bytes s.cfg.wire) = res := funext hres
  simp only [readAttrRspFrame, State.attrResults, List.flatMap_map, List.cons_append, List.nil_append]

theorem exec_frameRx_clReadAttr (hp : profile ≠ s.cfg.wire.mgProfile) (hlen : s.cfg.wire.hdrLen ≤ args.length + 3) :
    exec (.frameRx ⟨r, cluster, profile, kind :: seq :: s.cfg.wire.cmdReadAttr :: args⟩) s
      = exec (.clReadAttr r cluster profile kind seq args) s := by
  rw [exec_frameRx, decodeDelivery_cl hp, decodeClFrame_whole hlen, if_pos rfl]

/-- Settles O48: the row answers each id with its result's bytes, and a delivery performs the row. -/
theorem readAttributesAnswersEachId : Obligations.ReadAttributesAnswersEachId := by
  intro r cluster profile kind seq args s res frame t
  have hres : ∀ id, (s.attrResult r.dstEp cluster id).bytes s.cfg.wire = res id := by
    intro id
    cases hr : s.cfg.row ⟨r.dstEp, cluster, id⟩ with
    | none =>
      rw [State.attrResult_of_value_none (State.value_of_row_none hr)]
      simp only [res, hr, AttrResult.bytes]
    | some row =>
      cases hv : s.value ⟨r.dstEp, cluster, id⟩ with
      | none =>
        rw [State.attrResult_of_value_none hv]
        simp only [res, hr, hv, AttrResult.bytes]
      | some v =>
        rw [State.attrResult_of_value hr hv]
        simp only [res, hr, hv, AttrResult.bytes, List.append_assoc, List.cons_append, List.nil_append]
  have hrow : exec (.clReadAttr r cluster profile kind seq args) s = .next t := by
    refine congrArg Host.Outcome.next ?_
    rw [State.readAttr, readAttrRspFrame_attrResults hres]
    exact s.respond_eq_responded _
  exact ⟨hrow, fun hp hlen => (exec_frameRx_clReadAttr hp hlen).trans hrow⟩

/-- Settles O49: the header's three bytes, then each result's. -/
theorem readAttributesResponseLength : Obligations.ReadAttributesResponseLength := readAttrRspFrame_length

/-! ### The other CL rows (R232, R238, R239) -/

theorem exec_clDefaultRsp (r : Route) (cluster profile : Half) (kind seq : Byte) (args : List Byte) (s : State) :
    exec (.clDefaultRsp r cluster profile kind seq args) s
      = .next { s with firstRun := false, ret := ⟨.ok, .frames []⟩ } := rfl

theorem exec_clOther (r : Route) (cluster profile : Half) (kind seq cmd : Byte) (args : List Byte) (s : State) :
    exec (.clOther r cluster profile kind seq cmd args) s = .next (s.malformed (.unknownClCommand cmd)) :=
  congrArg Host.Outcome.next (s.dropFrame_eq _)

theorem exec_clShort (r : Route) (cluster profile : Half) (payload : List Byte) (s : State) :
    exec (.clShort r cluster profile payload) s = .next (s.malformed .shortFrame) :=
  congrArg Host.Outcome.next (s.dropFrame_eq _)

/-- Settles O50, row by row: the acknowledgement writes FIRST_RUN, the other two rows are drops. -/
theorem otherClFramesAcknowledgeOrDrop : Obligations.OtherClFramesAcknowledgeOrDrop :=
  fun r cluster profile kind seq cmd args payload s =>
    ⟨exec_clDefaultRsp r cluster profile kind seq args s, exec_clOther r cluster profile kind seq cmd args s,
      exec_clShort r cluster profile payload s⟩

/-! ### Frames that are not answered (R230 to R232, R239, R250, R251, R259, R260) -/

theorem exec_mgShort (r : Route) (cluster : Half) (payload : List Byte) (s : State) :
    exec (.mgShort r cluster payload) s = .next (s.malformed .shortFrame) :=
  congrArg Host.Outcome.next (s.dropFrame_eq _)

theorem exec_mgOther (r : Route) (cluster : Half) (tseq : Byte) (body : List Byte) (s : State) :
    exec (.mgOther r cluster tseq body) s = .next (s.malformed (.unknownMgCommand cluster)) :=
  congrArg Host.Outcome.next (s.dropFrame_eq _)

theorem exec_mgNodeDescRsp (r : Route) (tseq : Byte) (body : List Byte) (s : State) :
    exec (.mgNodeDescRsp r tseq body) s = .next { s with ret := ⟨.ok, .frames []⟩ } :=
  congrArg Host.Outcome.next (s.returns_eq _)

/-- Settles O51: each delivery performs its row (`exec_frameRx`), and the row of each of these frames is a drop or an ignored
notification. -/
theorem droppedAndIgnoredFrames : Obligations.DroppedAndIgnoredFrames := by
  intro r cluster profile kind seq cmd tseq args payload body s
  simp only [exec_frameRx, decodeDelivery_mg]
  refine ⟨fun hp => ⟨fun hshort => ?clShort, fun hlen hread hdefault => ?clOther⟩, fun hshort => ?mgShort,
    fun hunknown => ?mgOther, fun hdistinct => ?nodeDesc⟩
  case clShort =>
    rw [decodeDelivery_cl hp, decodeClFrame_short (Wire.shortCl_eq_true.mpr hshort)]
    exact exec_clShort r cluster profile payload s
  case clOther =>
    rw [decodeDelivery_cl hp, decodeClFrame_whole hlen, if_neg hread, if_neg hdefault]
    exact exec_clOther r cluster profile kind seq cmd args s
  case mgShort =>
    rw [decodeMgFrame_short (mgTooShort_of_cases hshort)]
    exact exec_mgShort r cluster payload s
  case mgOther =>
    rw [decodeMgFrame_unknown hunknown]
    exact exec_mgOther r cluster tseq body s
  case nodeDesc =>
    rw [decodeMgFrame_nodeDescRsp hdistinct]
    exact exec_mgNodeDescRsp r tseq body s

end Sys2Proof.Machine
end

section
/-! The management namespace (46_management.md R251 to R261): what an answered request hands to the transport, the address
response read back from its bytes, and the rows that write PEER or are dropped. -/

namespace Sys2Proof

/-! ### An endpoint's descriptor (R107) -/

theorem clusterList_length (cs : List Half) : (clusterList cs).length = 1 + 2 * cs.length := by
  simp only [clusterList, List.length_cons, List.length_flatMap, le16_length, List.map_const', List.sum_replicate_nat]
  omega

theorem EpDesc.bytes_length (e : EpDesc) :
    e.bytes.length = 8 + 2 * e.inClusters.length + 2 * e.outClusters.length := by
  simp only [EpDesc.bytes, List.length_cons, List.length_append, le16_length, clusterList_length]
  omega

theorem EpDesc.bytes_eq (e : EpDesc) :
    e.bytes = [e.endpoint] ++ le16 e.profile ++ le16 e.device ++ [e.version]
      ++ clusterList e.inClusters ++ clusterList e.outClusters := by
  simp [EpDesc.bytes]

/-! ### An address response, read back from its bytes (R62, R258; D20, D25) -/

variable {c : Config}

/-- A 64-bit address is the number its eight little-endian bytes stand for (R62). -/
theorem ofNat_fromLe_leN_eight (long : BitVec 64) : BitVec.ofNat 64 (fromLe (leN 8 long.toNat)) = long := by
  rw [fromLe_leN 8 _ long.isLt, BitVec.ofNat_toNat, BitVec.setWidth_eq]

theorem decodeAddrRsp_addrRspBody (f : Byte → BitVec 64 → Half → List Byte → Instr) (tooShort : Instr) (status : Byte)
    (long : BitVec 64) (short : Half) (rest : List Byte) :
    decodeAddrRsp f tooShort (addrRspBody status long short rest) = f status long short rest :=
  congrArg₂ (f status · · rest) (ofNat_fromLe_leN_eight long) (word16_le16 short)

theorem decodeMgFrame_nwkAddrRsp (h : c.wire.Distinct) (r : Route) (profile : Half) (tseq status : Byte)
    (long : BitVec 64) (short : Half) (rest : List Byte) :
    decodeMgFrame c ⟨r, c.wire.mgNwkAddrRsp, profile, tseq :: addrRspBody status long short rest⟩
      = .mgNwkAddrRsp r tseq status long short rest := by
  obtain ⟨-, hnwk, -⟩ := h.mgCommands_ne
  simp only [decodeMgFrame, hnwk, if_false, if_true, decodeAddrRsp_addrRspBody]

theorem decodeMgFrame_ieeeAddrRsp (h : c.wire.Distinct) (r : Route) (profile : Half) (tseq status : Byte)
    (long : BitVec 64) (short : Half) (rest : List Byte) :
    decodeMgFrame c ⟨r, c.wire.mgIeeeAddrRsp, profile, tseq :: addrRspBody status long short rest⟩
      = .mgIeeeAddrRsp r tseq status long short rest := by
  obtain ⟨-, -, hieee, -⟩ := h.mgCommands_ne
  simp only [decodeMgFrame, hieee, if_false, if_true, decodeAddrRsp_addrRspBody]

end Sys2Proof

namespace Sys2Proof.Machine

/-! ### Address responses (R258) -/

/-- Learning an address writes PEER and the return value only (R258). -/
theorem State.learnPeer_eq (s : State) (long : BitVec 64) (short : Half) :
    s.learnPeer long short = { s with peer := some ⟨long, short⟩, ret := ⟨.ok, .frames []⟩ } := rfl

theorem exec_mgNwkAddrRsp (r : Route) (tseq status : Byte) (long : BitVec 64) (short : Half) (rest : List Byte)
    (s : State) :
    exec (.mgNwkAddrRsp r tseq status long short rest) s
      = .next { s with peer := some ⟨long, short⟩, ret := ⟨.ok, .frames []⟩ } :=
  congrArg Host.Outcome.next (s.learnPeer_eq long short)

theorem exec_mgIeeeAddrRsp (r : Route) (tseq status : Byte) (long : BitVec 64) (short : Half) (rest : List Byte)
    (s : State) :
    exec (.mgIeeeAddrRsp r tseq status long short rest) s
      = .next { s with peer := some ⟨long, short⟩, ret := ⟨.ok, .frames []⟩ } :=
  congrArg Host.Outcome.next (s.learnPeer_eq long short)

/-- Settles O56: a delivery performs the row of its frame, which for either cluster is the address response with the
addresses read back. -/
theorem deliveredAddressResponseIsLearned : Obligations.DeliveredAddressResponseIsLearned := by
  intro r tseq status long short rest s hdistinct cluster hcluster
  change exec (.frameRx ⟨r, cluster, s.cfg.wire.mgProfile, tseq :: addrRspBody status long short rest⟩) s = _
  rw [exec_frameRx, decodeDelivery_mg]
  simp only [List.mem_cons, List.not_mem_nil, or_false] at hcluster
  obtain rfl | rfl := hcluster
  · rw [decodeMgFrame_nwkAddrRsp hdistinct]
    exact exec_mgNwkAddrRsp r tseq status long short rest s
  · rw [decodeMgFrame_ieeeAddrRsp hdistinct]
    exact exec_mgIeeeAddrRsp r tseq status long short rest s

/-! ### Requests that are answered (R252 to R257, R261) -/

/-- An MG answer is one response to the sender, on the request's cluster with bit 15 set (R261). -/
theorem State.mgAnswer_eq_responded (s : State) (r : Route) (request : Half) (frame : List Byte) :
    s.mgAnswer r request frame
      = s.responded ⟨⟨r.party, r.dstEp, r.srcEp⟩, request ||| 0x8000, s.cfg.wire.mgProfile, frame⟩ :=
  s.mgRespond_eq_responded r.reply (request ||| 0x8000) frame

theorem State.descLenByte_of_lt (s : State) {e : EpDesc} (h : e.bytes.length < 256) :
    s.descLenByte e = BitVec.ofNat 8 e.bytes.length :=
  if_pos h

/-- A descriptor query of an endpoint without a row in EP_TABLE is dropped (R252). -/
theorem State.simpleDesc_of_epDesc_none {s : State} {ep : Byte} (h : s.cfg.epDesc ep = none) (r : Route) (tseq : Byte)
    (addr : Half) : s.simpleDesc r tseq addr ep = s.malformed .unknownEndpoint := by
  simp only [State.simpleDesc, h]
  exact s.dropFrame_eq _

/-- Settles O52: EP_TABLE has a row for the endpoint or none; the length byte is the one that the state gives the row. -/
theorem descriptorQueryIsAnswered : Obligations.DescriptorQueryIsAnswered := by
  intro r tseq addr ep rest s
  refine ⟨?answered, fun hnone => ?dropped⟩
  case answered =>
    intro e he list desc
    have hdesc : desc = e.bytes := e.bytes_eq.symm
    rw [hdesc]
    refine ⟨e.bytes_length, s.descLenByte e, s.descLenByte_of_lt, congrArg Host.Outcome.next ?_⟩
    rw [State.simpleDesc_of_epDesc he, State.mgAnswer_eq_responded, simpleDescRspFrame_eq]
  case dropped => exact congrArg Host.Outcome.next (State.simpleDesc_of_epDesc_none hnone r tseq addr)

/-- Settles O53: the count byte is the length of EP_TABLE, which has as many rows as endpoints. -/
theorem activeEndpointQueryIsAnswered : Obligations.ActiveEndpointQueryIsAnswered := by
  intro r tseq addr rest s
  refine congrArg Host.Outcome.next ?_
  rw [State.activeEp, State.mgAnswer_eq_responded, activeEpRspFrame_eq, List.length_map]

/-- Settles O54: both rows are answered with the acknowledgement, each on its own cluster. -/
theorem bindAndUnbindAreAcknowledged : Obligations.BindAndUnbindAreAcknowledged :=
  fun r tseq _ s =>
    ⟨congrArg Host.Outcome.next (s.mgAnswer_eq_responded r s.cfg.wire.mgBindReq (ackFrame s.cfg.wire tseq)),
      congrArg Host.Outcome.next (s.mgAnswer_eq_responded r s.cfg.wire.mgUnbindReq (ackFrame s.cfg.wire tseq))⟩

/-! ### Notifications and drops (R251, R258 to R260) -/

/-- Settles O55, row by row: the address responses write PEER, the node descriptor is ignored, the other two rows are
drops. -/
theorem notificationsAndDropsOfManagement : Obligations.NotificationsAndDropsOfManagement :=
  fun r cluster tseq status long short rest payload s =>
    ⟨exec_mgNwkAddrRsp r tseq status long short rest s, exec_mgIeeeAddrRsp r tseq status long short rest s,
      exec_mgNodeDescRsp r tseq rest s, exec_mgOther r cluster tseq rest s, exec_mgShort r cluster payload s⟩

end Sys2Proof.Machine
end

section
/-! Host commands as bytes (30_encoding.md R90 to R92, R112; log entry 1): each operand reader accepts exactly what its
writer writes, so that the bytes that decode to an instruction are the ones that encode it. -/

namespace Sys2Proof

variable {c : Config} {i : Instr} {code : Byte} {ops : List Byte}

/-! ### Operand readers and writers (R91, R92, R108) -/

theorem noOperands_eq_ok {j : Instr} : noOperands i ops = .ok j ↔ ops = [] ∧ i = j := by
  cases ops <;> simp [noOperands]

theorem byteOperand_eq_ok {f : Byte → Except DecodeError Instr} :
    byteOperand f ops = .ok i ↔ ∃ b, ops = [b] ∧ f b = .ok i := by
  match ops with
  | [] | [_] | _ :: _ :: _ => simp [byteOperand]

theorem bitOperand_eq_ok {f : Bool → Except DecodeError Instr} {b : Byte} :
    bitOperand f b = .ok i ↔ ∃ p, b = bitByte p ∧ f p = .ok i := by
  unfold bitOperand
  split_ifs with h0 h1
  · simp [bitByte, h0]
  · simp [bitByte, h1]
  · simp_all [bitByte]

theorem keyOperand_eq_ok {f : Key → List Byte → Except DecodeError Instr} :
    keyOperand f ops = .ok i ↔ ∃ k rest, ops = keyBytes k ++ rest ∧ f k rest = .ok i := by
  constructor
  · intro h
    unfold keyOperand at h
    split at h
    next ep c0 c1 i0 i1 rest => exact ⟨_, rest, by simp [keyBytes, le16_word16], h⟩
    next => cases h
  · rintro ⟨k, rest, rfl, h⟩
    simpa only [keyBytes, le16_eq, List.cons_append, List.nil_append, keyOperand, word16_le16] using h

theorem fromLe_lt (s : List Byte) : fromLe s < 256 ^ s.length := by
  induction s with
  | nil => exact Nat.one_pos
  | cons b s ih =>
    have := b.isLt
    rw [fromLe, List.length_cons, pow_succ]
    omega

/-- Eight bytes are those of the 64-bit number they stand for (R62, R92). -/
theorem leN_ofNat_fromLe_eight {s : List Byte} (h : s.length = 8) : leN 8 (BitVec.ofNat 64 (fromLe s)).toNat = s := by
  have hfit : fromLe s < 2 ^ 64 := (fromLe_lt s).trans_eq (by rw [h]; rfl)
  rw [BitVec.toNat_ofNat, Nat.mod_eq_of_lt hfit, ← h, leN_fromLe]

theorem envelopeOperand_eq_ok : envelopeOperand ops = .ok i ↔ ∃ env, ops = envelopeBytes env ∧ .frameRx env = i := by
  constructor
  · intro h
    unfold envelopeOperand at h
    split at h
    next s0 s1 s2 s3 s4 s5 s6 s7 _ _ _ _ _ _ _ =>
      cases h
      have hparty := leN_ofNat_fromLe_eight (s := [s0, s1, s2, s3, s4, s5, s6, s7]) rfl
      exact ⟨_, by simp only [envelopeBytes, hparty, le16_word16, List.cons_append, List.nil_append], rfl⟩
    next => cases h
  · rintro ⟨env, rfl, rfl⟩
    have hparty := ofNat_fromLe_leN_eight env.route.party
    simp only [leN] at hparty
    simp only [envelopeBytes, leN, le16_eq, List.cons_append, List.nil_append, envelopeOperand, word16_le16, hparty]

/-! ### Reserved codes (R112) -/

theorem codeIn_eq_true {lo hi : Nat} : codeIn lo hi code = true ↔ lo ≤ code.toNat ∧ code.toNat ≤ hi :=
  decide_eq_true_iff

/-- The row of a code that is no operation's. -/
def reservedRow (code : Byte) (ops : List Byte) : Instr :=
  if codeIn 0x04 0x0F code then .reserved04To0F code ops
  else if codeIn 0x14 0x1F code then .reserved14To1F code ops
  else if codeIn 0x21 0x2F code then .reserved21To2F code ops
  else if codeIn 0x34 0x3F code then .reserved34To3F code ops
  else if codeIn 0x41 0x4F code then .reserved41To4F code ops
  else if codeIn 0x51 0xEF code then .reserved51ToEF code ops
  else .reservedF2ToFF code ops

theorem decodeHost_eq_reservedRow (hcode : code ∉ operationCodes) (ops : List Byte) :
    decodeHost (code :: ops) = .ok (reservedRow code ops) := by
  simp only [operationCodes, List.mem_cons, List.not_mem_nil, or_false, not_or] at hcode
  simp only [decodeHost, decodeCommand, hcode, if_false, reservedRow, apply_ite Except.ok]

/-- A reserved row is well-formed only with a code of its own range, which holds no operation's code. -/
theorem decodeHost_of_mem_reservedRows (hi : i ∈ reservedRows code ops) (h : i.wf c = true) :
    decodeHost (code :: ops) = .ok i := by
  have hclear {lo hi : Nat} (hops : ∀ op ∈ operationCodes, codeIn lo hi op = false) (h : codeIn lo hi code = true) :
      code ∉ operationCodes := fun hmem => by simp [hops code hmem] at h
  simp only [reservedRows, List.mem_cons, List.not_mem_nil, or_false] at hi
  rcases hi with rfl | rfl | rfl | rfl | rfl | rfl | rfl
  all_goals
    rw [decodeHost_eq_reservedRow (hclear (by decide) h), reservedRow]
    simp only [Instr.wf, codeIn_eq_true] at h ⊢
  · rw [if_pos h]
  · rw [if_neg (by omega), if_pos h]
  · rw [if_neg (by omega), if_neg (by omega), if_pos h]
  · rw [if_neg (by omega), if_neg (by omega), if_neg (by omega), if_pos h]
  · rw [if_neg (by omega), if_neg (by omega), if_neg (by omega), if_neg (by omega), if_pos h]
  · rw [if_neg (by omega), if_neg (by omega), if_neg (by omega), if_neg (by omega), if_neg (by omega), if_pos h]
  · rw [if_neg (by omega), if_neg (by omega), if_neg (by omega), if_neg (by omega), if_neg (by omega),
      if_neg (by omega)]

theorem reservedRow_wf (hcode : code ∉ operationCodes) (ops : List Byte) : (reservedRow code ops).wf c = true := by
  unfold reservedRow
  split_ifs with h04 h14 h21 h34 h41 h51
  case neg =>
    simp only [operationCodes, List.mem_cons, List.not_mem_nil, or_false, not_or] at hcode
    simp only [codeIn_eq_true, Instr.wf] at h04 h14 h21 h34 h41 h51 ⊢
    bv_omega
  all_goals assumption

theorem encode_reservedRow (code : Byte) (ops : List Byte) :
    encode c (reservedRow code ops) = .input (.host (code :: ops)) := by
  unfold reservedRow
  split_ifs <;> rfl

/-! ### What a host command decodes to (R90, R91, R112) -/

theorem decodeHost_attrWr_eq_ok :
    decodeHost (0x30 :: ops) = .ok i ↔ ∃ k force v, ops = keyBytes k ++ bitByte force :: v ∧ .attrWr k force v = i := by
  have hread : decodeHost (0x30 :: ops) = keyOperand (fun k rest =>
      match rest with
      | b :: v => bitOperand (fun force => .ok (.attrWr k force v)) b
      | [] => .error .operandLength) ops := rfl
  rw [hread, keyOperand_eq_ok]
  constructor
  · rintro ⟨k, _ | ⟨b, v⟩, rfl, h⟩
    · cases h
    · obtain ⟨force, rfl, ⟨⟩⟩ := bitOperand_eq_ok.mp h
      exact ⟨k, force, v, rfl, rfl⟩
  · rintro ⟨k, force, v, rfl, rfl⟩
    exact ⟨k, _, rfl, bitOperand_eq_ok.mpr ⟨force, rfl, rfl⟩⟩

theorem decodeHost_attrTouch_eq_ok :
    decodeHost (0x31 :: ops) = .ok i ↔ ∃ k force, ops = keyBytes k ++ [bitByte force] ∧ .attrTouch k force = i := by
  have hread : decodeHost (0x31 :: ops)
      = keyOperand (fun k => byteOperand (bitOperand (fun force => .ok (.attrTouch k force)))) ops := rfl
  simp only [hread, keyOperand_eq_ok, byteOperand_eq_ok, bitOperand_eq_ok, Except.ok.injEq]
  constructor
  · rintro ⟨k, _, rfl, _, rfl, force, rfl, rfl⟩
    exact ⟨k, force, rfl, rfl⟩
  · rintro ⟨k, force, rfl, rfl⟩
    exact ⟨k, _, rfl, _, rfl, force, rfl, rfl⟩

theorem decodeHost_attrRd_eq_ok : decodeHost (0x32 :: ops) = .ok i ↔ ∃ k, ops = keyBytes k ∧ .attrRd k = i := by
  have hread : decodeHost (0x32 :: ops) = keyOperand (fun k => noOperands (.attrRd k)) ops := rfl
  simp only [hread, keyOperand_eq_ok, noOperands_eq_ok, exists_eq_left, List.append_nil, and_left_comm]

theorem decodeHost_cfgPolicy_eq_ok : decodeHost (0xF1 :: ops) = .ok i ↔ ∃ p, ops = [bitByte p] ∧ .cfgPolicy p = i := by
  have hread : decodeHost (0xF1 :: ops) = byteOperand (bitOperand (fun p => .ok (.cfgPolicy p))) ops := rfl
  simp only [hread, byteOperand_eq_ok, bitOperand_eq_ok, Except.ok.injEq]
  constructor
  · rintro ⟨_, rfl, p, rfl, rfl⟩
    exact ⟨p, rfl, rfl⟩
  · rintro ⟨p, rfl, rfl⟩
    exact ⟨_, rfl, p, rfl, rfl⟩

/-- What decodes is written with just these bytes, and is an instruction of the table. -/
theorem encode_of_decodeHost {bytes : List Byte} (h : decodeHost bytes = .ok i) :
    encode c i = .input (.host bytes) ∧ i.wf c = true := by
  cases bytes with
  | nil => cases h
  | cons code ops =>
    by_cases hcode : code ∈ operationCodes
    case neg =>
      cases (decodeHost_eq_reservedRow hcode ops).symm.trans h
      exact ⟨encode_reservedRow code ops, reservedRow_wf hcode ops⟩
    case pos =>
      simp only [operationCodes, List.mem_cons, List.not_mem_nil, or_false] at hcode
      rcases hcode with rfl | rfl | rfl | rfl | rfl | rfl | rfl | rfl | rfl | rfl | rfl | rfl | rfl | rfl | rfl | rfl |
        rfl
      · obtain ⟨rfl, rfl⟩ := noOperands_eq_ok.mp h
        exact ⟨rfl, rfl⟩
      · obtain ⟨b, rfl, ⟨⟩⟩ := byteOperand_eq_ok.mp h
        exact ⟨rfl, rfl⟩
      · obtain ⟨rfl, rfl⟩ := noOperands_eq_ok.mp h
        exact ⟨rfl, rfl⟩
      · cases h
        exact ⟨rfl, rfl⟩
      · obtain ⟨rfl, rfl⟩ := noOperands_eq_ok.mp h
        exact ⟨rfl, rfl⟩
      · cases h
        exact ⟨rfl, rfl⟩
      · obtain ⟨rfl, rfl⟩ := noOperands_eq_ok.mp h
        exact ⟨rfl, rfl⟩
      · obtain ⟨rfl, rfl⟩ := noOperands_eq_ok.mp h
        exact ⟨rfl, rfl⟩
      · obtain ⟨rfl, rfl⟩ := noOperands_eq_ok.mp h
        exact ⟨rfl, rfl⟩
      · obtain ⟨k, force, v, rfl, rfl⟩ := decodeHost_attrWr_eq_ok.mp h
        exact ⟨rfl, rfl⟩
      · obtain ⟨k, force, rfl, rfl⟩ := decodeHost_attrTouch_eq_ok.mp h
        exact ⟨rfl, rfl⟩
      · obtain ⟨k, rfl, rfl⟩ := decodeHost_attrRd_eq_ok.mp h
        exact ⟨rfl, rfl⟩
      · obtain ⟨ep, rfl, ⟨⟩⟩ := byteOperand_eq_ok.mp h
        exact ⟨rfl, rfl⟩
      · obtain ⟨ep, rfl, ⟨⟩⟩ := byteOperand_eq_ok.mp h
        exact ⟨rfl, rfl⟩
      · obtain ⟨env, rfl, rfl⟩ := envelopeOperand_eq_ok.mp h
        exact ⟨rfl, rfl⟩
      · obtain ⟨rfl, rfl⟩ := noOperands_eq_ok.mp h
        exact ⟨rfl, rfl⟩
      · obtain ⟨p, rfl, rfl⟩ := decodeHost_cfgPolicy_eq_ok.mp h
        exact ⟨rfl, rfl⟩

/-- Settles O2, by the code and the reader of its operands. -/
theorem hostCommandsAreWrittenInOneWay : Obligations.HostCommandsAreWrittenInOneWay :=
  fun _ _ _ h => (encode_of_decodeHost h).1

end Sys2Proof
end

section
/-! Inbound packets (30_encoding.md R93, R97, R106, R109 to R113): whatever one decodes to is an instruction of the
table. -/

namespace Sys2Proof

variable {c : Config} {i : Instr} {r : Route} {cluster profile : Half} {payload body : List Byte}

theorem clProfile_eq_true : clProfile c profile = true ↔ profile ≠ c.wire.mgProfile := bne_iff_ne

theorem clWhole_eq_true {args : List Byte} :
    clWhole c profile args = true ↔ profile ≠ c.wire.mgProfile ∧ c.wire.hdrLen ≤ args.length + 3 := by
  rw [clWhole, Bool.and_eq_true, clProfile_eq_true, decide_eq_true_iff]

theorem decodeClFrame_wf (hp : profile ≠ c.wire.mgProfile) :
    (decodeClFrame c ⟨r, cluster, profile, payload⟩).wf c = true := by
  by_cases hshort : c.wire.shortCl payload = true
  case pos =>
    rw [decodeClFrame_short hshort]
    simp only [Instr.wf, clProfile_eq_true.mpr hp, hshort, Bool.and_self]
  case neg =>
    match payload with
    | [] | [_] | [_, _] => simp [Wire.shortCl] at hshort
    | kind :: seq :: cmd :: args =>
      have hlen : c.wire.hdrLen ≤ args.length + 3 := by simpa using hshort
      rw [decodeClFrame_whole hlen]
      split_ifs with hread hdefault <;> simp [Instr.wf, clWhole_eq_true.mpr ⟨hp, hlen⟩, *]

theorem decodeAddrRsp_wf {f : Byte → BitVec 64 → Half → List Byte → Instr} {tooShort : Instr}
    (hf : ∀ status long short rest, (f status long short rest).wf c = true)
    (hshort : body.length < 11 → tooShort.wf c = true) : (decodeAddrRsp f tooShort body).wf c = true := by
  unfold decodeAddrRsp
  split
  · exact hf _ _ _ _
  next hno =>
    refine hshort (Nat.lt_of_not_le fun hlen => ?_)
    match body, hlen with
    | _ :: _ :: _ :: _ :: _ :: _ :: _ :: _ :: _ :: _ :: _ :: _, _ => exact hno _ _ _ _ _ _ _ _ _ _ _ _ rfl

theorem decodeMgFrame_wf : (decodeMgFrame c ⟨r, cluster, profile, payload⟩).wf c = true := by
  by_cases hshort : mgTooShort c.wire cluster payload = true
  case pos =>
    rw [decodeMgFrame_short hshort]
    exact hshort
  case neg =>
    match payload with
    | [] => exact absurd rfl hshort
    | tseq :: body =>
      simp only [decodeMgFrame]
      split_ifs with hsimple hactive hbind hunbind hnwk hieee hnode
      case pos =>
        match body with
        | [] | [_] | [_, _] => simp [mgTooShort, hsimple] at hshort
        | _ :: _ :: _ :: _ => rfl
      case pos =>
        match body with
        | [] | [_] => simp [mgTooShort, hactive] at hshort
        | _ :: _ :: _ => rfl
      case pos => rfl
      case pos => rfl
      case pos =>
        subst hnwk
        exact decodeAddrRsp_wf (fun _ _ _ _ => rfl) fun hlen => by
          simpa [Instr.wf, mgTooShort, hsimple, hactive, hbind, hunbind] using Nat.succ_lt_succ hlen
      case pos =>
        subst hieee
        exact decodeAddrRsp_wf (fun _ _ _ _ => rfl) fun hlen => by
          simpa [Instr.wf, mgTooShort, hsimple, hactive, hbind, hunbind, hnwk] using Nat.succ_lt_succ hlen
      case pos => rfl
      case neg =>
        simp [Instr.wf, Wire.mgCommands, hsimple, hactive, hbind, hunbind, hnwk, hieee, hnode]

theorem decodeDelivery_wf (env : Envelope) : (decodeDelivery c env).wf c = true := by
  unfold decodeDelivery
  split
  next => exact decodeMgFrame_wf
  next hp => exact decodeClFrame_wf hp

/-- The body of a telegram that was read ends at the first end marker (R93). -/
theorem decodeText_wf {bytes : List Byte} (h : decodeText c bytes = .ok i) : i.wf c = true := by
  unfold decodeText at h
  split at h
  next => cases h
  next b s =>
    split_ifs at h
    split at h
    next j hj =>
      split_ifs at h with hlen
      cases h
      exact Instr.wf_telegram.mpr ⟨(Machine.findByte_eq_some.mp hj).2, hlen⟩
    next => cases h

/-- Settles O3, by the three kinds of input. -/
theorem decodedInstructionsAreWellFormed : Obligations.DecodedInstructionsAreWellFormed := by
  intro c p i h
  cases p with
  | host bytes => exact (encode_of_decodeHost h).2
  | deliver env =>
    cases h
    exact decodeDelivery_wf env
  | text bytes => exact decodeText_wf h

end Sys2Proof
end

section
/-! Every written form read back (30_encoding.md R93, R97 to R107, R115; 46_management.md R252 to R258): the bytes of a
well-formed row decode to the row, its values found from their tags and its lists from their counts. -/

namespace Sys2Proof

variable {c : Config} {i : Instr} {r : Route} {cluster profile : Half} {kind seq cmd tseq : Byte}
  {args payload body digits : List Byte}

/-! ### Inbound frames and telegrams, read back (R93, R97, R106, R252 to R258) -/

theorem decodeText_telegramBytes (h : (Instr.telegram body digits).wf c = true) :
    decodeText c (telegramBytes c body digits) = .ok (.telegram body digits) := by
  obtain ⟨hbody, hdigits⟩ := Instr.wf_telegram.mp h
  have hend := Machine.findByte_append_cons hbody digits
  simp [decodeText, telegramBytes, hend, hdigits]

theorem le16_append (v : Half) (s : List Byte) :
    le16 v ++ s = BitVec.ofNat 8 v.toNat :: BitVec.ofNat 8 (v.toNat / 256) :: s := rfl

theorem decodeMgFrame_simpleDescReq (addr : Half) (ep : Byte) (rest : List Byte) :
    decodeMgFrame c ⟨r, c.wire.mgSimpleDescReq, profile, tseq :: (le16 addr ++ ep :: rest)⟩
      = .mgSimpleDescReq r tseq addr ep rest := by
  simp only [decodeMgFrame, if_true, le16_append, word16_le16]

theorem decodeMgFrame_activeEpReq (h : c.wire.Distinct) (addr : Half) (rest : List Byte) :
    decodeMgFrame c ⟨r, c.wire.mgActiveEpReq, profile, tseq :: (le16 addr ++ rest)⟩
      = .mgActiveEpReq r tseq addr rest := by
  obtain ⟨hactive, -⟩ := h.mgCommands_ne
  simp only [decodeMgFrame, hactive, if_false, if_true, le16_append, word16_le16]

/-- The clusters of the two bind requests differ from those of the arms tried before theirs (R9, R250). -/
theorem Wire.Distinct.mgBind_ne {w : Wire} (h : w.Distinct) :
    (w.mgBindReq ≠ w.mgSimpleDescReq ∧ w.mgBindReq ≠ w.mgActiveEpReq) ∧
    w.mgUnbindReq ≠ w.mgSimpleDescReq ∧ w.mgUnbindReq ≠ w.mgActiveEpReq ∧ w.mgUnbindReq ≠ w.mgBindReq := by
  obtain ⟨-, -, -, hmg⟩ := h
  simp only [Wire.mgCommands, List.cons_append, List.nodup_cons, List.mem_cons, not_or] at hmg
  tauto

theorem decodeMgFrame_bindReq (h : c.wire.Distinct) :
    decodeMgFrame c ⟨r, c.wire.mgBindReq, profile, tseq :: body⟩ = .mgBindReq r tseq body := by
  obtain ⟨hbind, -⟩ := h.mgBind_ne
  simp only [decodeMgFrame, hbind, if_false, if_true]

theorem decodeMgFrame_unbindReq (h : c.wire.Distinct) :
    decodeMgFrame c ⟨r, c.wire.mgUnbindReq, profile, tseq :: body⟩ = .mgUnbindReq r tseq body := by
  obtain ⟨-, hunbind⟩ := h.mgBind_ne
  simp only [decodeMgFrame, hunbind, if_false, if_true]

/-! ### Values, records and results, read back (R98 to R103, R115) -/

/-- A reader finds the end of a value from its tag (R115). -/
theorem splitValue_append {tag : Byte} {v : List Byte} (h : c.valueWf tag v = true) (rest : List Byte) :
    splitValue c tag (v ++ rest) = some (v, rest) := by
  unfold Config.valueWf at h
  unfold splitValue
  cases hw : c.width tag with
  | fixed n =>
    obtain rfl : v.length = n := by simpa [hw] using h
    simp
  | prefixed =>
    cases v with
    | nil => simp [hw] at h
    | cons l s =>
      have hlen : s.length = l.toNat := by simpa [hw] using h
      simp [← hlen]
  | unknown => simp [hw] at h

theorem parseRecords_cons {record : AttrRecord} (h : c.valueWf record.tag record.value = true) (fuel : Nat)
    (rest : List Byte) :
    parseRecords c (fuel + 1) (record.bytes ++ rest) = (parseRecords c fuel rest).map (record :: ·) := by
  simp only [AttrRecord.bytes, List.cons_append, le16_append, parseRecords, splitValue_append h, word16_le16]

theorem parseRecords_flatMap {records : List AttrRecord}
    (h : ∀ record ∈ records, c.valueWf record.tag record.value = true) {fuel : Nat} (hfuel : records.length ≤ fuel) :
    parseRecords c fuel (records.flatMap AttrRecord.bytes) = some records := by
  induction records generalizing fuel with
  | nil => simp [parseRecords]
  | cons record records ih =>
    obtain ⟨hrecord, hrecords⟩ := List.forall_mem_cons.mp h
    obtain ⟨fuel, rfl⟩ := Nat.exists_eq_succ_of_ne_zero (Nat.ne_zero_of_lt hfuel)
    rw [List.flatMap_cons, parseRecords_cons hrecord, ih hrecords (Nat.le_of_succ_le_succ hfuel), Option.map_some]

theorem parseResults_cons (hd : c.wire.Distinct) {res : AttrResult} (h : res.wf c = true) (fuel : Nat)
    (rest : List Byte) :
    parseResults c (fuel + 1) (res.bytes c.wire ++ rest) = (parseResults c fuel rest).map (res :: ·) := by
  obtain ⟨-, -, hstatus, -⟩ := hd
  cases res with
  | found id tag v =>
    simp only [AttrResult.bytes, List.cons_append, le16_append, parseResults, if_true, splitValue_append h,
      word16_le16]
  | unsupported id =>
    simp only [AttrResult.bytes, List.cons_append, List.nil_append, le16_append, parseResults, hstatus.symm,
      if_false, if_true, word16_le16]

theorem parseResults_flatMap (hd : c.wire.Distinct) {results : List AttrResult} (h : ∀ res ∈ results, res.wf c = true)
    {fuel : Nat} (hfuel : results.length ≤ fuel) :
    parseResults c fuel (results.flatMap (AttrResult.bytes c.wire)) = some results := by
  induction results generalizing fuel with
  | nil => simp [parseResults]
  | cons res results ih =>
    obtain ⟨hres, hresults⟩ := List.forall_mem_cons.mp h
    obtain ⟨fuel, rfl⟩ := Nat.exists_eq_succ_of_ne_zero (Nat.ne_zero_of_lt hfuel)
    rw [List.flatMap_cons, parseResults_cons hd hres, ih hresults (Nat.le_of_succ_le_succ hfuel), Option.map_some]

/-! ### Descriptors, read back (R107) -/

theorem parseClusters_flatMap (cs : List Half) (rest : List Byte) :
    parseClusters cs.length (cs.flatMap le16 ++ rest) = some (cs, rest) := by
  induction cs with
  | nil => rfl
  | cons x cs ih =>
    simp only [List.flatMap_cons, List.cons_append, le16_append, List.length_cons, parseClusters, ih, word16_le16,
      Option.map_some]

theorem toNat_countByte {n : Nat} (h : n ≤ 255) : (countByte n).toNat = n := by
  rw [countByte, BitVec.toNat_ofNat, Nat.mod_eq_of_lt (by omega)]

theorem parseClusterList_clusterList {cs : List Half} (h : cs.length ≤ 255) (rest : List Byte) :
    parseClusterList (clusterList cs ++ rest) = some (cs, rest) := by
  rw [clusterList, List.cons_append, parseClusterList, toNat_countByte h, parseClusters_flatMap]

theorem parseDesc_bytes {e : EpDesc} (h : e.CountsFit) : parseDesc e.bytes = some e := by
  obtain ⟨hin, hout⟩ := h
  have houts := parseClusterList_clusterList hout []
  rw [List.append_nil] at houts
  simp only [EpDesc.bytes, le16_append, parseDesc, parseClusterList_clusterList hin, houts, word16_le16]

/-! ### Outbound frames, read back (R98, R101, R253 to R257; log entries 17 and 27) -/

theorem length_le_length_flatMap {α : Type} {f : α → List Byte} (hf : ∀ a, (f a).length ≠ 0) (l : List α) :
    l.length ≤ (l.flatMap f).length := by
  induction l with
  | nil => exact Nat.le_refl 0
  | cons a l ih =>
    have := hf a
    rw [List.flatMap_cons, List.length_append, List.length_cons]
    omega

theorem decodeOutbound_of_cl {t : TxEnvelope} (hp : t.profile ≠ c.wire.mgProfile) (h : decodeClOutbound c t = some i) :
    decodeOutbound c t = .ok i := by
  rw [decodeOutbound, if_neg hp, h]

theorem decodeOutbound_of_mg {frame : List Byte} (h : decodeMgOutbound c (mgResponse c.wire r cluster frame) = some i) :
    decodeOutbound c (mgResponse c.wire r cluster frame) = .ok i := by
  have hp : (mgResponse c.wire r cluster frame).profile = c.wire.mgProfile := rfl
  rw [decodeOutbound, if_pos hp, h]

theorem decodeClOutbound_readAttrRspFrame (hd : c.wire.Distinct) {results : List AttrResult}
    (h : ∀ res ∈ results, res.wf c = true) :
    decodeClOutbound c ⟨r, cluster, profile, readAttrRspFrame c.wire seq results⟩
      = some (.clReadAttrRsp r cluster profile seq results) := by
  have hfuel : results.length ≤ (results.flatMap (AttrResult.bytes c.wire)).length :=
    length_le_length_flatMap (fun res => by cases res <;> simp [AttrResult.bytes]) results
  simp only [decodeClOutbound, readAttrRspFrame, and_self, if_true, parseResults_flatMap hd h hfuel, Option.map_some]

theorem decodeClOutbound_reportFrame (hd : c.wire.Distinct) {records : List AttrRecord} (hne : records ≠ [])
    (h : ∀ record ∈ records, c.valueWf record.tag record.value = true) :
    decodeClOutbound c ⟨r, cluster, profile, reportFrame c.wire seq records⟩
      = some (.clReportAttr r cluster profile seq records) := by
  obtain ⟨hkind, -⟩ := hd
  have hfuel : records.length ≤ (records.flatMap AttrRecord.bytes).length :=
    length_le_length_flatMap (fun record => by simp [AttrRecord.bytes]) records
  obtain ⟨record, records, rfl⟩ := List.exists_cons_of_ne_nil hne
  simp only [decodeClOutbound, reportFrame, hkind, false_and, if_false, and_self, if_true, parseRecords_flatMap h hfuel]

/-- The response clusters differ from those of the rows tried before theirs (R9). -/
theorem Wire.Distinct.mgResponses_ne {w : Wire} (h : w.Distinct) :
    w.mgActiveEpRsp ≠ w.mgSimpleDescRsp ∧
    (w.mgBindRsp ≠ w.mgSimpleDescRsp ∧ w.mgBindRsp ≠ w.mgActiveEpRsp) ∧
    w.mgUnbindRsp ≠ w.mgSimpleDescRsp ∧ w.mgUnbindRsp ≠ w.mgActiveEpRsp ∧ w.mgUnbindRsp ≠ w.mgBindRsp := by
  obtain ⟨-, -, -, hmg⟩ := h
  have hresponses : w.mgResponses.Nodup := (List.nodup_append.mp hmg).2.1
  simp only [Wire.mgResponses, List.nodup_cons, List.mem_cons, not_or] at hresponses
  tauto

theorem decodeMgOutbound_simpleDescRsp {e : EpDesc} (he : e.CountsFit) {len : Byte} (hlen : lenByteOk len e = true)
    (addr : Half) :
    decodeMgOutbound c (mgResponse c.wire r c.wire.mgSimpleDescRsp (simpleDescRspFrame c.wire tseq addr len e))
      = some (.mgSimpleDescRsp r tseq addr len e) := by
  simp only [decodeMgOutbound, mgResponse, simpleDescRspFrame, ne_eq, not_true, if_false, if_true, le16_append,
    parseDesc_bytes he, hlen, word16_le16]

theorem decodeMgOutbound_activeEpRsp (hd : c.wire.Distinct) {eps : List Byte} (heps : eps.length ≤ 255) (addr : Half) :
    decodeMgOutbound c (mgResponse c.wire r c.wire.mgActiveEpRsp (activeEpRspFrame c.wire tseq addr eps))
      = some (.mgActiveEpRsp r tseq addr eps) := by
  obtain ⟨hactive, -⟩ := hd.mgResponses_ne
  simp only [decodeMgOutbound, mgResponse, activeEpRspFrame, ne_eq, not_true, if_false, hactive, if_true, le16_append,
    toNat_countByte heps, word16_le16]

theorem decodeMgOutbound_bindRsp (hd : c.wire.Distinct) :
    decodeMgOutbound c (mgResponse c.wire r c.wire.mgBindRsp (ackFrame c.wire tseq)) = some (.mgBindRsp r tseq) := by
  obtain ⟨-, hbind, -⟩ := hd.mgResponses_ne
  simp only [decodeMgOutbound, mgResponse, ackFrame, ne_eq, not_true, if_false, hbind, if_true]

theorem decodeMgOutbound_unbindRsp (hd : c.wire.Distinct) :
    decodeMgOutbound c (mgResponse c.wire r c.wire.mgUnbindRsp (ackFrame c.wire tseq))
      = some (.mgUnbindRsp r tseq) := by
  obtain ⟨-, -, hunbind⟩ := hd.mgResponses_ne
  simp only [decodeMgOutbound, mgResponse, ackFrame, ne_eq, not_true, if_false, hunbind, if_true]

/-! ### Every format (R90, R93, R97 to R107, R252 to R258) -/

theorem decodePacket_clDelivery (hp : profile ≠ c.wire.mgProfile) :
    decodePacket c (clDelivery r cluster profile payload) = .ok (decodeClFrame c ⟨r, cluster, profile, payload⟩) :=
  congrArg Except.ok (decodeDelivery_cl hp)

theorem decodePacket_mgDelivery (h : decodeMgFrame c ⟨r, cluster, c.wire.mgProfile, payload⟩ = i) :
    decodePacket c (mgDelivery c r cluster payload) = .ok i :=
  congrArg Except.ok ((decodeDelivery_mg c r cluster payload).trans h)

theorem decodePacket_clReadAttr (h : clWhole c profile args = true) :
    decodePacket c (clDelivery r cluster profile (kind :: seq :: c.wire.cmdReadAttr :: args))
      = .ok (.clReadAttr r cluster profile kind seq args) := by
  obtain ⟨hp, hlen⟩ := clWhole_eq_true.mp h
  rw [decodePacket_clDelivery hp, decodeClFrame_whole hlen, if_pos rfl]

theorem decodePacket_clDefaultRsp (hd : c.wire.Distinct) (h : clWhole c profile args = true) :
    decodePacket c (clDelivery r cluster profile (kind :: seq :: c.wire.cmdDefaultRsp :: args))
      = .ok (.clDefaultRsp r cluster profile kind seq args) := by
  obtain ⟨hp, hlen⟩ := clWhole_eq_true.mp h
  obtain ⟨-, hcmd, -⟩ := hd
  have hne : c.wire.cmdDefaultRsp ≠ c.wire.cmdReadAttr := by
    intro heq
    simp [heq] at hcmd
  rw [decodePacket_clDelivery hp, decodeClFrame_whole hlen, if_neg hne, if_pos rfl]

theorem decodePacket_clOther (h : (Instr.clOther r cluster profile kind seq cmd args).wf c = true) :
    decodePacket c (clDelivery r cluster profile (kind :: seq :: cmd :: args))
      = .ok (.clOther r cluster profile kind seq cmd args) := by
  simp only [Instr.wf, Bool.and_eq_true, bne_iff_ne, clWhole_eq_true] at h
  obtain ⟨⟨⟨hp, hlen⟩, hread⟩, hdefault⟩ := h
  rw [decodePacket_clDelivery hp, decodeClFrame_whole hlen, if_neg hread, if_neg hdefault]

theorem decodePacket_clShort (h : (Instr.clShort r cluster profile payload).wf c = true) :
    decodePacket c (clDelivery r cluster profile payload) = .ok (.clShort r cluster profile payload) := by
  simp only [Instr.wf, Bool.and_eq_true, clProfile_eq_true] at h
  obtain ⟨hp, hshort⟩ := h
  rw [decodePacket_clDelivery hp, decodeClFrame_short hshort]

theorem decodePacket_clReadAttrRsp (hd : c.wire.Distinct) {results : List AttrResult}
    (h : (Instr.clReadAttrRsp r cluster profile seq results).wf c = true) :
    decodePacket c (clOutput r cluster profile (readAttrRspFrame c.wire seq results))
      = .ok (.clReadAttrRsp r cluster profile seq results) := by
  simp only [Instr.wf, Bool.and_eq_true, clProfile_eq_true, List.all_eq_true] at h
  obtain ⟨hp, hresults⟩ := h
  exact decodeOutbound_of_cl hp (decodeClOutbound_readAttrRspFrame hd hresults)

theorem decodePacket_clReportAttr (hd : c.wire.Distinct) {records : List AttrRecord}
    (h : (Instr.clReportAttr r cluster profile seq records).wf c = true) :
    decodePacket c (clOutput r cluster profile (reportFrame c.wire seq records))
      = .ok (.clReportAttr r cluster profile seq records) := by
  simp only [Instr.wf, Bool.and_eq_true, clProfile_eq_true, List.all_eq_true, Bool.not_eq_true',
    List.isEmpty_eq_false_iff] at h
  obtain ⟨⟨hp, hne⟩, hrecords⟩ := h
  exact decodeOutbound_of_cl hp (decodeClOutbound_reportFrame hd hne hrecords)

theorem decodePacket_encode (hd : c.wire.Distinct) (h : i.wf c = true) : decodePacket c (encode c i) = .ok i := by
  cases i with
  | crcClr | crcUpd | crcRd | csum | acqStart | acqPoll | acqRel | acqRd | tverify => rfl
  | dirtyClr | report | reset => rfl
  | attrWr k force v => exact decodeHost_attrWr_eq_ok.mpr ⟨k, force, v, rfl, rfl⟩
  | attrTouch k force => exact decodeHost_attrTouch_eq_ok.mpr ⟨k, force, rfl, rfl⟩
  | attrRd k => exact decodeHost_attrRd_eq_ok.mpr ⟨k, rfl, rfl⟩
  | frameRx env => exact envelopeOperand_eq_ok.mpr ⟨env, rfl, rfl⟩
  | cfgPolicy p => exact decodeHost_cfgPolicy_eq_ok.mpr ⟨p, rfl, rfl⟩
  | reserved04To0F | reserved14To1F | reserved21To2F | reserved34To3F | reserved41To4F | reserved51ToEF |
    reservedF2ToFF =>
    exact decodeHost_of_mem_reservedRows (by simp [reservedRows]) h
  | clReadAttr => exact decodePacket_clReadAttr h
  | clReadAttrRsp => exact decodePacket_clReadAttrRsp hd h
  | clReportAttr => exact decodePacket_clReportAttr hd h
  | clDefaultRsp => exact decodePacket_clDefaultRsp hd h
  | clOther => exact decodePacket_clOther h
  | clShort => exact decodePacket_clShort h
  | mgSimpleDescReq r tseq addr ep rest =>
    exact decodePacket_mgDelivery (decodeMgFrame_simpleDescReq addr ep rest)
  | mgActiveEpReq r tseq addr rest =>
    exact decodePacket_mgDelivery (decodeMgFrame_activeEpReq hd addr rest)
  | mgBindReq => exact decodePacket_mgDelivery (decodeMgFrame_bindReq hd)
  | mgUnbindReq => exact decodePacket_mgDelivery (decodeMgFrame_unbindReq hd)
  | mgNwkAddrRsp r tseq status long short rest =>
    exact decodePacket_mgDelivery (decodeMgFrame_nwkAddrRsp hd r _ tseq status long short rest)
  | mgIeeeAddrRsp r tseq status long short rest =>
    exact decodePacket_mgDelivery (decodeMgFrame_ieeeAddrRsp hd r _ tseq status long short rest)
  | mgNodeDescRsp => exact decodePacket_mgDelivery (decodeMgFrame_nodeDescRsp hd)
  | mgOther r cluster tseq body =>
    exact decodePacket_mgDelivery (decodeMgFrame_unknown (by simpa [Instr.wf] using h))
  | mgShort => exact decodePacket_mgDelivery (decodeMgFrame_short h)
  | mgSimpleDescRsp r tseq addr len e =>
    simp only [Instr.wf, Bool.and_eq_true, decide_eq_true_eq] at h
    obtain ⟨hfit, hlen⟩ := h
    exact decodeOutbound_of_mg (decodeMgOutbound_simpleDescRsp hfit hlen addr)
  | mgActiveEpRsp r tseq addr eps =>
    exact decodeOutbound_of_mg (decodeMgOutbound_activeEpRsp hd (of_decide_eq_true h) addr)
  | mgBindRsp => exact decodeOutbound_of_mg (decodeMgOutbound_bindRsp hd)
  | mgUnbindRsp => exact decodeOutbound_of_mg (decodeMgOutbound_unbindRsp hd)
  | telegram => exact decodeText_telegramBytes h

/-- Settles O1: of a well-formed configuration only the distinct wire constants matter. -/
theorem decodeOfEncodeIsTheInstruction : Obligations.DecodeOfEncodeIsTheInstruction := by
  intro c hc i hi
  obtain ⟨-, -, -, hd, -⟩ := hc
  exact decodePacket_encode hd hi

end Sys2Proof
end

section
/-! The system operations (47_system.md R265 to R267; 70_reset_and_hazards.md R300, R302): a step without an input,
RESET, CFG.POLICY, and the calls of `set_ready` of every instruction. -/

namespace Sys2Proof.Machine

/-- Settles O8: a step takes from the queue, and does nothing where there is nothing to take. -/
theorem stepWithoutInputChangesNothing : Obligations.StepWithoutInputChangesNothing := by
  intro s hwf hp
  rw [step, if_pos hwf, hp]

/-! ### RESET (R42, R265, R302; log entry 12) -/

theorem exec_reset_eq (s : State) :
    exec .reset s = .next { State.resetWith s.cfg with
      pending := s.pending, txAnswers := s.txAnswers, freeIdx := s.freeIdx, trace := s.traceGateDown
      ret := ⟨.ok, .none⟩ } := by
  rw [State.traceGateDown_eq]
  exact congrArg (fun t => Host.Outcome.next (State.returns t .none)) s.resetElements_eq

/-- Right after reset every value is the `init` of its row (R34, R42). -/
theorem State.value_resetWith {c : Config} {k : Key} {r : AttrRow} (hr : c.row k = some r) :
    (State.resetWith c).value k = r.init := State.value_of_row (s := State.resetWith c) hr

/-- Settles O59. -/
theorem resetRestoresTheResetState : Obligations.ResetRestoresTheResetState :=
  fun s => ⟨exec_reset_eq s, fun _ _ hr => State.value_resetWith hr⟩

/-! ### CFG.POLICY (R193, R267) -/

theorem exec_cfgPolicy (p : Bool) (s : State) :
    exec (.cfgPolicy p) s = .next { s with alwaysPublish := p, ret := ⟨.ok, .none⟩ } := rfl

/-- Settles O60: in Steady an unforced touch marks by the policy alone. -/
theorem policyTakesEffectAtOnce : Obligations.PolicyTakesEffectAtOnce := by
  refine fun p s => ⟨exec_cfgPolicy p s, fun k r hr hsteady => ?_⟩
  have htouch := exec_attrTouch (force := false) (s := { s with alwaysPublish := p, ret := ⟨.ok, .none⟩ }) hr
  have hpublishes : State.publishes { s with alwaysPublish := p, ret := ⟨.ok, .none⟩ } false = p := by
    simp [State.publishes, hsteady]
  rw [hpublishes] at htouch
  exact ⟨_, runOps_cons_eq_next.mpr ⟨_, exec_cfgPolicy p s, runOps_cons_eq_next.mpr ⟨_, htouch, rfl⟩⟩, rfl⟩

/-! ### The calls of `set_ready` (R266; log entry 13) -/

theorem gateReplay_append (level : Bool) (es fs : List OutEvent) :
    gateReplay level (es ++ fs) = (gateReplay level es).bind (gateReplay · fs) := by
  induction es generalizing level with
  | nil => rfl
  | cons e es ih =>
    cases e with
    | setReady b =>
      simp only [List.cons_append, gateReplay]
      split
      · rfl
      · exact ih b
    | transmit tx a => exact ih level
    | log e => exact ih level

/-- The calls of `set_ready` seen so far bring the gate, down at first, to the level it has. -/
def State.GateReplayed (s : State) : Prop := gateReplay false s.trace = some s.gate

variable {s t : State}

/-- What is seen next, from the level of the gate on. -/
theorem State.GateReplayed.append (h : s.GateReplayed) (es : List OutEvent) :
    gateReplay false (s.trace ++ es) = gateReplay s.gate es := by
  rw [gateReplay_append, h, Option.bind_some]

/-- A transmit and a log event are no calls of `set_ready`. -/
theorem State.GateReplayed.dropFrame (h : s.GateReplayed) (e : LogEvent) : (s.dropFrame e).GateReplayed :=
  h.append [.log e]

theorem State.GateReplayed.respond (h : s.GateReplayed) (tx : TxEnvelope) : (s.respond tx).GateReplayed :=
  h.append [.transmit tx s.txAnswer]

theorem State.GateReplayed.sendReport (h : s.GateReplayed) (tx : TxEnvelope) : (s.sendReport tx).GateReplayed := by
  rw [State.sendReport_eq]
  exact h.append [.transmit tx s.txAnswer]

theorem State.GateReplayed.sendGroups (h : s.GateReplayed) (ep : Byte) (gs : List (Half × List Key)) :
    (Machine.sendGroups ep gs s).1.GateReplayed := by
  induction gs generalizing s with
  | nil => exact h
  | cons g gs ih => exact ih (h.sendReport _)

/-- Driving the gate is a call exactly where it changes the level. -/
theorem State.GateReplayed.driveGate (h : s.GateReplayed) (b : Bool) : (s.driveGate b).GateReplayed := by
  unfold State.driveGate
  split
  next => exact h
  next hne => exact (h.append [.setReady b]).trans (if_neg (Ne.symm hne))

theorem State.GateReplayed.traceGateDown (h : s.GateReplayed) : gateReplay false s.traceGateDown = some false := by
  have hdown := h.driveGate false
  rwa [State.GateReplayed, State.driveGate_eq, ← State.traceGateDown_eq] at hdown

/-- How a poll ends: refused, failed, gone on, or completed (R152 to R160). -/
theorem State.poll_ends (s : State) (c : List Byte) :
    s.poll c = s.illegal ∨ (∃ e, s.poll c = s.failed e) ∨ (∃ f n b j, s.poll c = s.acquiring f n b j) ∨
      ∃ b j, s.poll c = s.completed b j := by
  rcases s.poll_cases c with ⟨_, h⟩ | ⟨_, h | h⟩ | ⟨_, _, h⟩ | ⟨_, _, _, _, _, _, ⟨_, h⟩ | ⟨_, _, ⟨_, h⟩ | ⟨_, h⟩⟩⟩ |
    ⟨_, _, _, _, ⟨_, _, h⟩ | ⟨_, _, ⟨_, h⟩ | ⟨_, h⟩⟩⟩ | ⟨_, _, _, _, ⟨_, _, h⟩ | ⟨_, _, _, h⟩⟩
  case inl => exact .inl h
  case inr.inl.inl | inr.inl.inr => exact .inr (.inl ⟨_, h⟩)
  case inr.inr.inr.inl.inr.inr | inr.inr.inr.inr.inl.inr.inr | inr.inr.inr.inr.inr.inr =>
    exact .inr (.inr (.inr ⟨_, _, h⟩))
  all_goals exact .inr (.inr (.inl ⟨_, _, _, _, h⟩))

theorem State.GateReplayed.poll (h : s.GateReplayed) (c : List Byte) : (s.poll c).GateReplayed := by
  rcases s.poll_ends c with hp | ⟨_, hp⟩ | ⟨_, _, _, _, hp⟩ | ⟨_, _, hp⟩ <;> rw [hp]
  · exact h
  · exact h.traceGateDown
  · exact h
  · exact h.traceGateDown

theorem State.GateReplayed.simpleDesc (h : s.GateReplayed) (r : Route) (tseq : Byte) (addr : Half) (ep : Byte) :
    (s.simpleDesc r tseq addr ep).GateReplayed := by
  unfold State.simpleDesc
  split
  · exact h.respond _
  · exact h.dropFrame _

theorem State.GateReplayed.execFrameRx (h : s.GateReplayed) (env : Envelope) :
    ∃ t, exec (.frameRx env) s = .next t ∧ t.GateReplayed := by
  have arms : ArmsRelate (fun t _ => t.GateReplayed) env s s :=
    { drop := fun e => h.dropFrame e
      respond := fun tx => h.respond tx
      ignore := h
      learn := fun _ _ _ _ => h
      acknowledge := fun _ _ => h }
  obtain ⟨t, _, ht, _, hreplayed⟩ := arms.frameRx rfl rfl rfl
  exact ⟨t, ht, hreplayed⟩

theorem State.GateReplayed.execAcqStart (h : s.GateReplayed) : ∃ t, exec .acqStart s = .next t ∧ t.GateReplayed := by
  have hcleared : ((s.setFramer .scanning 0 [] none).setErr 0).GateReplayed := h
  exact ⟨_, rfl, hcleared.driveGate true⟩

theorem State.GateReplayed.execAcqRel (h : s.GateReplayed) : ∃ t, exec .acqRel s = .next t ∧ t.GateReplayed := by
  refine ⟨_, rfl, ?_⟩
  split <;> exact h

theorem State.GateReplayed.execAcqRd (h : s.GateReplayed) : ∃ t, exec .acqRd s = .next t ∧ t.GateReplayed := by
  refine ⟨_, rfl, ?_⟩
  split <;> exact h

theorem State.GateReplayed.execTverify (h : s.GateReplayed) : ∃ t, exec .tverify s = .next t ∧ t.GateReplayed := by
  refine ⟨_, rfl, ?_⟩
  split
  · split <;> exact h
  · exact h

theorem State.GateReplayed.execAttrWr (h : s.GateReplayed) (k : Key) (force : Bool) (v : List Byte) :
    ∃ t, exec (.attrWr k force v) s = .next t ∧ t.GateReplayed := by
  refine ⟨_, rfl, ?_⟩
  split
  · split
    · rw [State.writeRow_frame]
      exact h
    · exact h
  · exact h

theorem State.GateReplayed.execAttrTouch (h : s.GateReplayed) (k : Key) (force : Bool) :
    ∃ t, exec (.attrTouch k force) s = .next t ∧ t.GateReplayed := by
  refine ⟨_, rfl, ?_⟩
  split
  · split
    · rw [State.mark_eq]
      exact h
    · exact h
  · exact h

theorem State.GateReplayed.execAttrRd (h : s.GateReplayed) (k : Key) :
    ∃ t, exec (.attrRd k) s = .next t ∧ t.GateReplayed := by
  refine ⟨_, rfl, ?_⟩
  split <;> exact h

theorem State.GateReplayed.execDirtyClr (h : s.GateReplayed) (ep : Byte) :
    ∃ t, exec (.dirtyClr ep) s = .next t ∧ t.GateReplayed := by
  refine ⟨_, rfl, ?_⟩
  split <;> exact h

theorem State.GateReplayed.execReport (h : s.GateReplayed) (ep : Byte) :
    ∃ t, exec (.report ep) s = .next t ∧ t.GateReplayed := by
  refine ⟨_, rfl, ?_⟩
  split
  · exact h.sendGroups ep _
  · exact h

theorem exec_gateReplayed (h : s.GateReplayed) (i : Instr) : ∃ t, exec i s = .next t ∧ t.GateReplayed := by
  cases i with
  | acqStart => exact h.execAcqStart
  | acqPoll c => exact ⟨_, rfl, h.poll c⟩
  | telegram body digits => exact ⟨_, rfl, h.poll _⟩
  | reset => exact ⟨_, exec_reset_eq s, h.traceGateDown⟩
  | acqRel => exact h.execAcqRel
  | acqRd => exact h.execAcqRd
  | tverify => exact h.execTverify
  | attrWr k force v => exact h.execAttrWr k force v
  | attrTouch k force => exact h.execAttrTouch k force
  | attrRd k => exact h.execAttrRd k
  | dirtyClr ep => exact h.execDirtyClr ep
  | report ep => exact h.execReport ep
  | frameRx env => exact h.execFrameRx env
  | clReportAttr => exact ⟨_, rfl, h.sendReport _⟩
  | mgSimpleDescReq r tseq addr endpoint => exact ⟨_, rfl, h.simpleDesc r tseq addr endpoint⟩
  | clReadAttr | clReadAttrRsp => exact ⟨_, rfl, h.respond _⟩
  | mgSimpleDescRsp | mgActiveEpReq | mgActiveEpRsp | mgBindReq | mgBindRsp | mgUnbindReq | mgUnbindRsp =>
    exact ⟨_, rfl, h.respond _⟩
  | clOther | clShort | mgOther | mgShort => exact ⟨_, rfl, h.dropFrame _⟩
  | _ => exact ⟨_, rfl, h⟩

/-- Settles O12: each instruction replays on, by what it emits and where it drives the gate. -/
theorem gateCallsAreTheChangesOfTheGate : Obligations.GateCallsAreTheChangesOfTheGate := by
  intro i s t hexec h
  obtain ⟨u, hu, hreplayed⟩ := exec_gateReplayed h i
  cases hexec.symm.trans hu
  exact hreplayed

end Sys2Proof.Machine
end

section
/-! The budgets of an acquisition (60_exceptions.md R272 to R274, R279; 70_reset_and_hazards.md R312): which polls time
out, what the timeout and the mismatch change, and how long the host waits. -/

namespace Sys2Proof.Machine

variable {s t : State} {c : List Byte}

/-! ### The polls that end in AcquisitionTimeout (R273, R279; D7) -/

/-- The status of a poll that stays in its state: the timeout where it spends the budget. -/
theorem State.status_of_stayed {f : FState} {n budget : Nat} {b : List Byte} {j : Option Nat} :
    (if n = budget then s.failed .acquisitionTimeout else s.acquiring f n b j).ret.status = .acquisitionTimeout
      ↔ n = budget := by
  split <;> simp [State.failed, State.acquiring, *]

theorem State.ended_status (s : State) (b : List Byte) (j : Nat) : (s.ended b j).ret.status = .ok := by
  unfold State.ended
  split <;> rfl

theorem State.poll_timeout_scanning (h : s.fstate = .scanning) :
    (s.poll c).ret.status = .acquisitionTimeout ↔ s.polls + 1 = s.cfg.n1 ∧ s.cfg.startMark ∉ c := by
  cases hstart : findByte s.cfg.startMark c with
  | none =>
    have hc := findByte_eq_none.mp hstart
    rw [State.poll_scanning_missed h hc, State.status_of_stayed, and_iff_left hc]
  | some i =>
    have hc : s.cfg.startMark ∈ c := List.mem_of_getElem? (findByte_eq_some.mp hstart).1
    refine iff_of_false ?_ fun ⟨_, hnot⟩ => hnot hc
    cases hfit : s.cfg.fits (c.drop i).length with
    | false => simp [State.poll_scanning_overflow h hstart hfit, State.failed]
    | true =>
      cases hend : findByte s.cfg.endMark (c.drop i) with
      | none => simp [State.poll_scanning_started h hstart hfit (findByte_eq_none.mp hend), State.acquiring]
      | some j => simp [State.poll_scanning_ended h hstart hfit hend, State.ended_status]

theorem State.poll_timeout_body (h : s.fstate = .body) :
    (s.poll c).ret.status = .acquisitionTimeout ↔
      s.polls + 1 = s.cfg.n2 ∧ s.cfg.fits (s.tbuf ++ c).length = true ∧ s.cfg.endMark ∉ s.tbuf ++ c := by
  cases hfit : s.cfg.fits (s.tbuf ++ c).length with
  | false => simp [State.poll_body_overflow h hfit, State.failed]
  | true =>
    cases hend : findByte s.cfg.endMark (s.tbuf ++ c) with
    | none =>
      have hnot := findByte_eq_none.mp hend
      rw [State.poll_body_open h hfit hnot, State.status_of_stayed]
      exact (and_iff_left ⟨rfl, hnot⟩).symm
    | some j =>
      have hmem : s.cfg.endMark ∈ s.tbuf ++ c := List.mem_of_getElem? (findByte_eq_some.mp hend).1
      refine iff_of_false ?_ fun ⟨_, _, hnot⟩ => hnot hmem
      simp [State.poll_body_ended h hfit hend, State.ended_status]

/-- A poll in TAIL that leaves the telegram incomplete, or that knows no end marker, stays (R155; log entry 22). -/
theorem State.poll_tail_stayed (h : s.fstate = .tail) (hfit : s.cfg.fits (s.tbuf ++ c).length = true)
    (hl : ∀ j, s.bang = some j → (s.tbuf ++ c).length < j + 1 + s.cfg.csumDigits) :
    s.poll c = if s.polls + 1 = s.cfg.n3 then s.failed .acquisitionTimeout
      else s.acquiring .tail (s.polls + 1) (s.tbuf ++ c) s.bang := by
  cases hbang : s.bang with
  | some j => exact State.poll_tail_short h hbang hfit (hl j hbang)
  | none =>
    rw [State.poll_tail h, State.pollTail, if_pos hfit, hbang]
    exact State.endPoll_setFramer _ _ _

theorem State.poll_timeout_tail (h : s.fstate = .tail) :
    (s.poll c).ret.status = .acquisitionTimeout ↔
      s.polls + 1 = s.cfg.n3 ∧ s.cfg.fits (s.tbuf ++ c).length = true ∧
        ∀ j, s.bang = some j → (s.tbuf ++ c).length < j + 1 + s.cfg.csumDigits := by
  cases hfit : s.cfg.fits (s.tbuf ++ c).length with
  | false => simp [State.poll_tail_overflow h hfit, State.failed]
  | true =>
    by_cases hl : ∀ j, s.bang = some j → (s.tbuf ++ c).length < j + 1 + s.cfg.csumDigits
    case pos =>
      rw [State.poll_tail_stayed h hfit hl, State.status_of_stayed]
      exact (and_iff_left ⟨rfl, hl⟩).symm
    case neg =>
      refine iff_of_false ?_ fun ⟨_, _, hless⟩ => hl hless
      push Not at hl
      obtain ⟨j, hbang, hwhole⟩ := hl
      simp [State.poll_tail_whole h hbang hfit hwhole, State.completed]

/-- The polls of R273's list. -/
theorem State.poll_timeout_iff :
    (s.poll c).ret.status = .acquisitionTimeout ↔
      (s.fstate = .scanning ∧ s.polls + 1 = s.cfg.n1 ∧ s.cfg.startMark ∉ c) ∨
      (s.fstate = .body ∧ s.polls + 1 = s.cfg.n2 ∧ s.cfg.fits (s.tbuf ++ c).length = true ∧
        s.cfg.endMark ∉ s.tbuf ++ c) ∨
      (s.fstate = .tail ∧ s.polls + 1 = s.cfg.n3 ∧ s.cfg.fits (s.tbuf ++ c).length = true ∧
        ∀ j, s.bang = some j → (s.tbuf ++ c).length < j + 1 + s.cfg.csumDigits) := by
  cases hf : s.fstate with
  | scanning => simp [State.poll_timeout_scanning hf]
  | body => simp only [State.poll_timeout_body hf, reduceCtorEq, false_and, true_and, false_or, or_false]
  | tail => simp only [State.poll_timeout_tail hf, reduceCtorEq, false_and, true_and, false_or]
  | idle | complete =>
    have hrefused := State.poll_refused (s := s) (by rw [hf]; rfl) c
    simp [hrefused, State.illegal]

/-- What a timeout leaves: the state of R273's list of changes. -/
theorem State.poll_of_timeout (h : (s.poll c).ret.status = .acquisitionTimeout) :
    s.poll c = s.failed .acquisitionTimeout := by
  rcases s.poll_ends c with hp | ⟨e, hp⟩ | ⟨_, _, _, _, hp⟩ | ⟨_, _, hp⟩ <;> rw [hp] at h ⊢
  case inr.inl =>
    obtain rfl : e = .acquisitionTimeout := h
    rfl
  all_goals cases h

/-! ### TVERIFY (R182, R274) -/

theorem tverify_mismatch_iff (h : exec .tverify s = .next t) :
    t.ret.status = .checksumMismatch ↔ s.fstate = .complete ∧ valid s.tbuf = false := by
  by_cases hf : s.fstate = .complete
  case neg =>
    cases h.symm.trans (exec_tverify_refused hf)
    simp [State.illegal, hf]
  case pos =>
    cases hv : valid s.tbuf with
    | true =>
      cases h.symm.trans (exec_tverify_valid hf hv)
      simp
    | false =>
      cases h.symm.trans (exec_tverify_mismatch hf hv)
      simp [hf]

/-- Settles O34. -/
theorem timeoutAndMismatchAreRaisedAsListed : Obligations.TimeoutAndMismatchAreRaisedAsListed := by
  intro c s t u hpoll hverify
  cases hpoll
  refine ⟨State.poll_timeout_iff, State.poll_of_timeout, tverify_mismatch_iff hverify, fun hu => ?_⟩
  obtain ⟨hf, hv⟩ := (tverify_mismatch_iff hverify).mp hu
  cases hverify.symm.trans (exec_tverify_mismatch hf hv)
  rfl

/-! ### How long the host waits (R312; D6) -/

/-- The milliseconds that an acquisition can still take: the intervals of the polls left of the state's budget, and of
the budgets of the states after it. -/
def State.waitLeft (s : State) : Nat :=
  match s.fstate with
  | .scanning => (s.cfg.n1 - s.polls) * s.cfg.t1 + s.cfg.n2 * s.cfg.t2 + s.cfg.n3 * s.cfg.t3
  | .body => (s.cfg.n2 - s.polls) * s.cfg.t2 + s.cfg.n3 * s.cfg.t3
  | .tail => (s.cfg.n3 - s.polls) * s.cfg.t3
  | .idle => 0
  | .complete => 0

/-- The interval of one poll is the difference between a budget and what the poll leaves of it. -/
theorem interval_add_left {n p : Nat} (h : p < n) (t : Nat) : t + (n - (p + 1)) * t = (n - p) * t := by
  obtain ⟨k, rfl⟩ := Nat.exists_eq_add_of_lt h
  rw [show p + k + 1 - (p + 1) = k by omega, show p + k + 1 - p = k + 1 by omega, Nat.succ_mul, Nat.add_comm]

/-- One more wait is left while the budget of the state is not spent (R23). -/
theorem State.interval_le_waitLeft (h : s.FramerOk) : s.fstate.pollInterval s.cfg ≤ s.waitLeft := by
  obtain ⟨_, hscan, hbody, htail, _⟩ := h
  unfold State.waitLeft
  cases hf : s.fstate with
  | scanning =>
    have := interval_add_left (hscan hf).1 s.cfg.t1
    simp only [FState.pollInterval]
    omega
  | body =>
    have := interval_add_left (hbody hf).1 s.cfg.t2
    simp only [FState.pollInterval]
    omega
  | tail =>
    have := interval_add_left (htail hf).1 s.cfg.t3
    simp only [FState.pollInterval]
    omega
  | idle | complete => exact Nat.le_refl 0

/-- A poll of an acquisition, with the wait after it, takes no more than is left. -/
theorem State.interval_add_waitLeft_poll (h : s.FramerOk) (ha : s.fstate.acquiring = true) (c : List Byte) :
    s.fstate.pollInterval s.cfg + (s.poll c).waitLeft ≤ s.waitLeft := by
  have hstopped := State.interval_le_waitLeft h
  obtain ⟨_, hscan, hbody, htail, _⟩ := h
  have hscan1 := fun hf => interval_add_left (hscan hf).1 s.cfg.t1
  have hbody2 := fun hf => interval_add_left (hbody hf).1 s.cfg.t2
  have htail3 := fun hf => interval_add_left (htail hf).1 s.cfg.t3
  rcases s.poll_cases c with ⟨hn, _⟩ | ⟨_, hp | hp⟩ | ⟨hf, _, hp⟩ |
    ⟨_, _, hf, _, _, _, ⟨_, hp⟩ | ⟨_, _, ⟨_, hp⟩ | ⟨_, hp⟩⟩⟩ |
    ⟨_, hf, _, _, ⟨_, _, hp⟩ | ⟨_, _, ⟨_, hp⟩ | ⟨_, hp⟩⟩⟩ | ⟨_, hf, _, _, ⟨_, _, hp⟩ | ⟨_, _, _, hp⟩⟩
  case inl => cases hn.symm.trans ha
  all_goals rw [hp]
  case inr.inl.inl | inr.inl.inr => exact hstopped
  all_goals
    simp only [State.waitLeft, State.acquiring, State.completed, hf, FState.pollInterval, Nat.sub_zero]
    simp only [hf, true_implies, reduceCtorEq, false_implies] at hscan1 hbody2 htail3
    omega

theorem waited_cons (ha : s.fstate.acquiring = true) (c : List Byte) (cs : List (List Byte)) :
    waited (c :: cs) s = s.fstate.pollInterval s.cfg + waited cs (s.poll c) := by
  rw [waited, if_pos ha, exec_acqPoll]

theorem waited_of_stopped (ha : s.fstate.acquiring = false) (cs : List (List Byte)) : waited cs s = 0 := by
  cases cs with
  | nil => rfl
  | cons c cs => rw [waited, ha, if_neg Bool.false_ne_true]

/-- Whatever the chunks are, the waits stay within what is left. -/
theorem waited_le_waitLeft (hwf : s.cfg.WellFormed) (h : s.Framing) (cs : List (List Byte)) :
    waited cs s ≤ s.waitLeft := by
  induction cs generalizing s with
  | nil => exact Nat.zero_le _
  | cons c cs ih =>
    cases ha : s.fstate.acquiring with
    | false =>
      rw [waited_of_stopped ha]
      exact Nat.zero_le _
    | true =>
      have ⟨hframer, _⟩ := h
      have hcfg : (s.poll c).cfg = s.cfg := by rw [s.poll_frame c]
      have hrest : waited cs (s.poll c) ≤ (s.poll c).waitLeft := ih (hcfg ▸ hwf) (h.poll hwf c)
      calc waited (c :: cs) s
          = s.fstate.pollInterval s.cfg + waited cs (s.poll c) := waited_cons ha c cs
        _ ≤ s.fstate.pollInterval s.cfg + (s.poll c).waitLeft := Nat.add_le_add_left hrest _
        _ ≤ s.waitLeft := State.interval_add_waitLeft_poll hframer ha c

/-- Settles O29: right after ACQ.START all three budgets are left. -/
theorem acquisitionWaitIsBounded : Obligations.AcquisitionWaitIsBounded := by
  intro s t cs hwf hstart
  cases (exec_acqStart_eq s).symm.trans hstart
  exact waited_le_waitLeft (s := s.started) hwf (State.started_framing hwf) cs

end Sys2Proof.Machine
end
